-- ==== Sys2Proof/Word.lean ====
section
/-! DEFINITION. The plainest types of the model: bytes, the station's fixed index types (00_scope.md,
"Station dimensions"), and the one way a fixed-size table is rebuilt entry by entry. -/

namespace Sys2Proof

/-- One byte on either serial link. -/
abbrev Byte := BitVec 8

/-- A window table slot, 0 to 63 (R1). -/
abbrev SlotId := Fin 64
/-- A fish pass P0 to P5. -/
abbrev PassId := Fin 6
/-- A turbine unit U0 to U11. -/
abbrev UnitId := Fin 12
/-- A sensor line S0 to S7. -/
abbrev LineId := Fin 8
/-- A station condition C0 to C7. -/
abbrev CondId := Fin 8
/-- A record class, 0 to 7 (R7). -/
abbrev ClassId := Fin 8
/-- An integrity bank, 0 to 3 (R1). -/
abbrev BankId := Fin 4
/-- A rotation table phase, 0 to 31 (R136). -/
abbrev PhaseId := Fin 32
/-- A tier, 0 or 1 (R108). -/
abbrev Tier := Fin 2

/-- The table whose entry `i` is `f i` of the old entry `i`. -/
def mapTable {α β : Type} {n : Nat} (f : Fin n → α → β) (v : Vector α n) : Vector β n :=
  Vector.ofFn fun i => f i v[i]

@[simp] theorem mapTable_get {α β : Type} {n : Nat} (f : Fin n → α → β) (v : Vector α n)
    (i : Fin n) : (mapTable f v)[i] = f i v[i] := by
  simp [mapTable]

@[simp] theorem mapTable_getElem {α β : Type} {n : Nat} (f : Fin n → α → β) (v : Vector α n) (k : Nat) (h : k < n) :
    (mapTable f v)[k] = f ⟨k, h⟩ v[k] := by
  simp [mapTable]

/-- The indices of a table, in ascending order. -/
def indices (n : Nat) : List (Fin n) := List.finRange n

/-- The `Fin n` with value `k`, where there is one. -/
def index? (n k : Nat) : Option (Fin n) := if h : k < n then some ⟨k, h⟩ else none

@[simp] theorem index?_val {n : Nat} (i : Fin n) : index? n i.val = some i := by
  simp [index?]

theorem index?_eq_some {n k : Nat} {i : Fin n} (h : index? n k = some i) : i.val = k := by
  unfold index? at h
  split at h
  · cases h; rfl
  · cases h

end Sys2Proof
end

