-- ==== Sys2Proof/Config.lean ====
section
/-! DEFINITION. What the part fixes (limits and times of the spec) and the free values, which no proof can see
into: constants without a body. -/

namespace Sys2Proof.Config

/-- Largest flow of a pass, in fu (R7, R101). -/
def maxPassFlow : Nat := 2000
/-- Largest inflow held, in fu (R98). -/
def maxInflow : Nat := 60000
/-- Largest residual floor (R101). -/
def maxResidual : Nat := 20000
/-- Largest unit rated flow (R101). -/
def maxRating : Nat := 6000
/-- Largest stale limit (R101). -/
def maxStaleLimit : Nat := 16
/-- Largest interval length in minutes (R59). -/
def maxLength : Nat := 60
/-- Where elapsed stops: the largest span, 65535 + 15 (R9, R88). -/
def maxElapsed : Nat := 65550
/-- The repeat value that means unlimited (R7). -/
def unlimited : Nat := 255
/-- Largest value of a bank tracking counter (R168). -/
def maxTracking : Nat := 255
/-- Largest inflow age (R97). -/
def maxAge : Nat := 255
/-- Most matches in one LIST_WINDOWS answer (R55). -/
def listLimit : Nat := 8
/-- Most bytes in a response body: every response fits its one-byte length (R185, 12.5). -/
def maxBody : Nat := 253
/-- Most items in one SET_SETTINGS (R187). -/
def maxItems : Nat := 25

/-- L/2 in milliseconds, L in minutes: a mark before it is early (R65). -/
def earlyLimitMs (lengthMin : Nat) : Nat := 30000 * lengthMin
/-- L + L/4 in milliseconds: the lost-mark limit (R66). -/
def lostMarkLimitMs (lengthMin : Nat) : Nat := 75000 * lengthMin

/-- A RESET pulse shorter than this, in ns, is ignored (R192). -/
def resetIgnoredBelowNs : Nat := 1000
/-- A RESET pulse at least this long, in ns, is a full reset (R192). -/
def resetCertainFromNs : Nat := 10000

/-- FREE VALUE (notes/assumptions/1.md): whether the RESET pulse of 1 to 10 microseconds that takes the `k`-th
free value causes a full reset. R192: such a pulse "may or may not cause full reset". -/
opaque shortPulseResets : Nat → Bool

/-- FREE VALUE (notes/assumptions/16.md): T_ceil as the interval record holds it at an edge where D is above Q_used
and Q_used is not below Q_res, from Q_used, D and Q_res. R120 gives T_ceil for D at most Q_used and for Q_used below Q_res,
R121 gives none, and R122 records it. -/
opaque deficitCeiling : Nat → Nat → Nat → Nat

/-- FREE VALUE (notes/assumptions/5.md): the bytes of one part of a response body, whose layout no file of the spec
states. -/
opaque bodyLayout : {α : Type} → α → List Byte

end Sys2Proof.Config
end

