-- ==== Sys2Proof/Syntax.lean ====
section
/-! DEFINITION. The commands: one constructor of `Instr` for each row of spec/opcode_table.json, with the fields the
row's rule gives it. A request's fields are raw, as a frame may carry them: a field that its rule range-checks is a
`Nat` or an `Option` whose `none` is "a value that is none of those named", so that every refusal of the spec can be
asked for. A field that is never a structural fault at any value (R26) has the type of its whole range. -/

namespace Sys2Proof

/-- The party named in a request (R17). -/
inductive Issuer where
  | operator | authority | dispatch
deriving DecidableEq, Repr

/-- What a record orders (R3). -/
inductive Kind where
  | passFlow | unitPause
deriving DecidableEq, Repr

/-- The eight lifecycle states of a slot (R3, R19). -/
inductive SlotState where
  | free | staged | armed | pending | active | suspended | ended | quarantined
deriving DecidableEq, Repr

/-- R7. -/
inductive StartMode where
  | immediate | trigger
deriving DecidableEq, Repr

/-- R8: what a start does when its guard is not met. -/
inductive GuardMode where
  | skip | wait
deriving DecidableEq, Repr

/-- R143, R147. -/
inductive LineMode where
  | rise | fall | high | low | both
deriving DecidableEq, Repr

/-- R143, R145. -/
inductive SampleBase where
  | slow | fast
deriving DecidableEq, Repr

/-- R104. -/
inductive Binding where
  | idle | scheduled | manual | manualPulse
deriving DecidableEq, Repr

/-- R124. -/
inductive Availability where
  | available | outOfService
deriving DecidableEq, Repr

/-- The twelve causes that are stored, sticky and have an enable (R175). -/
inductive Sticky where
  | restart | lowRiver | deficit | shortfall0 | shortfall1 | inflowStale | shortAssign | nullified
  | markLost | earlyMark | stageLost | fixOverflow
deriving DecidableEq, Repr

/-- The fourteen causes (R175): LINE_PENDING is derived, RECORD_QUARANTINED has no enable. -/
inductive Cause where
  | sticky (c : Sticky)
  | linePending
  | recordQuarantined
deriving DecidableEq, Repr

/-- A request's body: its fields, or a body whose length or content does not match what the request carries, which
the executing block refuses with BAD_FIELD where that request judges BAD_FIELD (R186). For the requests that carry a
handle, `mismatch` is a body from which no handle can be read. -/
inductive Body (α : Type) where
  | mismatch
  | fields (a : α)
deriving DecidableEq, Repr

/-- A target as a request gives it (R25, R54). -/
inductive RawTarget where
  | pass (n : Nat)
  | fixed (n : Nat)
  | any
deriving DecidableEq, Repr

/-- A guard as a request gives it: `none` is a value that is not one of the two (R26). -/
structure RawGuard where
  condition : Nat
  polarity : Option Bool
  mode : Option GuardMode
deriving DecidableEq, Repr

/-- A handle as a request gives it (R13). -/
structure RawHandle where
  slot : Nat
  generation : Nat
deriving DecidableEq, Repr

/-- The fields of OPEN_WINDOW (R25). An optional field is `none` where the request does not carry it; `kind` and
`startMode` are `none` where the value carried is not one of the two. -/
structure OpenFields where
  kind : Option Kind
  target : RawTarget
  tag : BitVec 16
  cls : Nat
  requestedFlow : Option (BitVec 16)
  pauseCount : Option Nat
  unloadCount : Option Nat
  startMode : Option StartMode
  triggerLine : Option Nat
  startOffset : BitVec 16
  length : BitVec 16
  repeats : BitVec 8
  guard : Option RawGuard
  autoRelease : Bool
deriving DecidableEq, Repr

/-- The immutable fields an amendment may name, to be refused (R32, R34). -/
inductive ImmutableField where
  | kind | target | tag | startMode | triggerLine
deriving DecidableEq, Repr

/-- A guard field of an amendment (R32). -/
inductive RawGuardChange where
  | given (g : RawGuard)
  | remove
deriving DecidableEq, Repr

/-- The fields of AMEND_WINDOW (R32): the handle, the immutable fields it names, and the nine amendable fields, each
`none` where it is not named. `malformed`: the length or content of the body beyond the handle does not match these
fields (R186), which the last check of R33 judges. -/
structure AmendFields where
  handle : RawHandle
  immutable : List ImmutableField
  cls : Option Nat
  requestedFlow : Option (BitVec 16)
  length : Option (BitVec 16)
  repeats : Option (BitVec 8)
  guard : Option RawGuardChange
  autoRelease : Option Bool
  pauseCount : Option Nat
  unloadCount : Option Nat
  startOffset : Option (BitVec 16)
  malformed : Bool
deriving DecidableEq, Repr

/-- One part of a LIST_WINDOWS filter: ALL, a value, or a value outside those the part may have (R54). -/
inductive FilterPart (α : Type) where
  | all
  | only (a : α)
  | outside
deriving DecidableEq, Repr

/-- The fields of LIST_WINDOWS (R54). A `none` among the states is a value that is not a lifecycle state. -/
structure ListFields where
  states : List (Option SlotState)
  kind : FilterPart Kind
  target : FilterPart RawTarget
  owner : FilterPart Issuer
  cursor : Nat
deriving DecidableEq, Repr

/-- The fields of SET_BINDING (R105). -/
structure BindingFields where
  pass : Nat
  binding : Option Binding
  setpoint : BitVec 16
deriving DecidableEq, Repr

/-- The fields of SET_LINE (R144). -/
structure LineFields where
  line : Nat
  mode : Option LineMode
  enable : Option Bool
  base : Option SampleBase
  prescale : Nat
deriving DecidableEq, Repr

/-- A condition source as a request gives it (R156). -/
inductive RawSource where
  | host (inversion : Option Bool)
  | line (n : Nat) (inversion : Option Bool)
  | other
deriving DecidableEq, Repr

/-- The fields of SET_CONDITION (R155). -/
structure ConditionFields where
  condition : Nat
  value : Option Bool
deriving DecidableEq, Repr

/-- The fields of SET_CONDITION_SOURCE (R156). -/
structure SourceFields where
  condition : Nat
  source : RawSource
deriving DecidableEq, Repr

/-- What happens to an enabled line at LINE_EVENT (R146, R147): a filtered rise, a filtered fall, or a sample at
which the filtered level stays what it is. -/
inductive LineHappening where
  | rise | fall | level
deriving DecidableEq, Repr

/-- What FULL_RESET is caused by (R192): power-on, or RESET held low for a number of nanoseconds. -/
inductive ResetCause where
  | powerOn
  | resetLow (ns : Nat)
deriving DecidableEq, Repr

/-- The commands: one constructor for each row of spec/opcode_table.json. -/
inductive Instr where
  -- the requests (R186)
  | openWindow (iss : Issuer) (b : Body OpenFields)
  | amendWindow (iss : Issuer) (b : Body AmendFields)
  | retireWindow (iss : Issuer) (b : Body RawHandle)
  | purge (iss : Issuer) (b : Body Unit)
  | readWindow (iss : Issuer) (b : Body RawHandle)
  | findTag (iss : Issuer) (b : Body (BitVec 16))
  | listWindows (iss : Issuer) (b : Body ListFields)
  | readInterval (iss : Issuer) (b : Body Unit)
  | readStatus (iss : Issuer) (b : Body Unit)
  | reportInflow (iss : Issuer) (b : Body (BitVec 16))
  | reportUnits (iss : Issuer) (b : Body (List (Option Availability)))
  | setBinding (iss : Issuer) (b : Body BindingFields)
  | setSettings (iss : Issuer) (bytes : List Byte)
  | loadRotation (iss : Issuer) (b : Body (List Nat))
  | readRotation (iss : Issuer) (b : Body Unit)
  | setLine (iss : Issuer) (b : Body LineFields)
  | readLines (iss : Issuer) (b : Body Unit)
  | ackLines (iss : Issuer) (b : Body (List Nat))
  | setCondition (iss : Issuer) (b : Body ConditionFields)
  | setConditionSource (iss : Issuer) (b : Body SourceFields)
  | start (iss : Issuer) (b : Body Unit)
  | stop (iss : Issuer) (b : Body Unit)
  | holdOn (iss : Issuer) (b : Body Unit)
  | holdOff (iss : Issuer) (b : Body Unit)
  | readCauses (iss : Issuer) (b : Body Unit)
  | ackCauses (iss : Issuer) (b : Body (List (Option Cause)))
  | setAlertMask (iss : Issuer) (b : Body (List (Option Cause)))
  | clearTracking (iss : Issuer) (b : Body Unit)
  -- the port: the complete bytes of the select period, and whether its last byte was complete (R182, R183)
  | requestFrameEnd (bytes : List Byte) (complete : Bool)
  -- the timebase; `sinceEdge` is the time after the last edge in milliseconds (R65)
  | intervalTimerExpiry
  | mark (sinceEdge : Nat)
  | lostMarkLimitExpiry
  | holdLineChange (level : Bool)
  | edgeClaimGrant
  | frameTransmitDone
  -- the sensor lines and the table
  | lineEvent (m : LineId) (h : LineHappening)
  | triggerLatch (m : LineId)
  | scrubStepDue
  | scrubStep
  -- reset
  | fullReset (cause : ResetCause)
  | leaveReset
  -- the samples
  | sensorLineSample (m : LineId) (level : Bool)
  | markSample (level : Bool) (sinceEdge : Nat)
deriving DecidableEq, Repr

end Sys2Proof
end

