-- ==== Sys2Proof/Decode.lean ====
section
/-! DEFINITION. The command that a word spells by the bits of spec/opcode_table.json. The table gives bits to none of
its rows (each row's "fields" is empty and none has "fixed" bits), so no word spells a command. Request frames are
read by REQUEST_FRAME_END (Machine/Port.lean), from the frame layout of section 12.5. -/

namespace Sys2Proof

/-- No row of the table has bits: no word spells a command. -/
def decodeTableWord (_nbits _w : Nat) : Option Instr := none

end Sys2Proof
end

