-- ==== Sys2Proof/Machine/State.lean ====
section
/-! DEFINITION. The state of the LW612 as plain data, block by block (00_scope.md, "Blocks and how they work
together"), and the state right after the part leaves full reset. -/

namespace Sys2Proof.Machine

/-! ### The window table -/

/-- What the next read of a stored value finds (R167). -/
inductive Check where
  | clean | singleBit | uncorrectable
deriving DecidableEq, Repr

/-- A record's target (R3). Its kind is PASS_FLOW exactly for a pass. -/
inductive Target where
  | pass (p : PassId)
  | fixed (u : UnitId)
  | any
deriving DecidableEq, Repr

/-- R8. -/
structure Guard where
  condition : CondId
  polarity : Bool
  mode : GuardMode
deriving DecidableEq, Repr

/-- The record body: its settings (R7) and its runtime fields (R10). An optional field is absent for the record's
kind, target or start mode. -/
structure RecordBody where
  cls : ClassId
  requestedFlow : Option Nat
  pauseCount : Option Nat
  unloadCount : Option Nat
  startMode : StartMode
  triggerLine : Option LineId
  startOffset : Nat
  length : Nat
  repeats : Nat
  guard : Option Guard
  autoRelease : Bool
  lead : Nat
  elapsed : Nat
  runsLeft : Nat
  triggerSeen : Option Bool
  servedFlow : Option Nat
deriving DecidableEq, Repr

/-- A staged guard change (R12). -/
inductive GuardChange where
  | given (g : Guard)
  | remove
deriving DecidableEq, Repr

/-- The nine optional fields of an amendment (R12). -/
structure Amendment where
  cls : Option ClassId
  requestedFlow : Option Nat
  length : Option Nat
  repeats : Option Nat
  guard : Option GuardChange
  autoRelease : Option Bool
  pauseCount : Option Nat
  unloadCount : Option Nat
  startOffset : Option Nat
deriving DecidableEq, Repr

/-- A staged amendment with its own check (R12). -/
structure Staged where
  change : Amendment
  check : Check
deriving DecidableEq, Repr

/-- The seven states of a slot that is not FREE (R3). -/
inductive Life where
  | staged | armed | pending | active | suspended | ended | quarantined
deriving DecidableEq, Repr

/-- What a slot that is not FREE holds: the directory fields (R3), the body with its check, and the staged amendment
where one is held; staged_present is yes exactly then (R12). -/
structure Record where
  life : Life
  owner : Issuer
  tag : BitVec 16
  target : Target
  retirePending : Bool
  body : RecordBody
  check : Check
  staged : Option Staged
deriving DecidableEq, Repr

/-- A slot of the window table (R1): FREE exactly when it holds no record. -/
structure Slot where
  generation : BitVec 4
  record : Option Record
deriving DecidableEq, Repr

/-- R13. -/
structure Handle where
  slot : SlotId
  generation : BitVec 4
deriving DecidableEq, Repr

/-! ### The interval timebase -/

/-- The six kinds of edge (R60). -/
inductive EdgeKind where
  | start | timed | mark | self | holdEntry | holdExit
deriving DecidableEq, Repr

/-- R160. -/
inductive HoldOrigin where
  | run | syncing | starting
deriving DecidableEq, Repr

/-- The operating state (R68). In HOLD it carries the hold context's origin and interval number at entry, which are
present exactly then (R160). -/
inductive OpState where
  | standby
  | syncing
  | run
  | hold (origin : HoldOrigin) (entry : BitVec 32)
deriving DecidableEq, Repr

/-- R59. -/
inductive TimeSource where
  | internal | follow
deriving DecidableEq, Repr

/-- A two-sample filter: the previous sample (`none`: none) and the filtered level (R64, R146, R158). -/
structure Filter where
  previous : Option Bool
  level : Bool
deriving DecidableEq, Repr

/-- The timebase's own state (R59 to R71, R158). -/
structure Timebase where
  opState : OpState
  lengthMin : Nat
  source : TimeSource
  interval : BitVec 32
  lastEdge : Option EdgeKind
  timerRunning : Bool
  windowOpen : Bool
  markFilter : Filter
  holdLine : Filter
  hostHold : Bool
deriving DecidableEq, Repr

/-! ### The table access arbiter -/

/-- Who holds the table (R74). -/
inductive Holder where
  | nobody
  | request
  | edge (k : EdgeKind)
  | scrubber
deriving DecidableEq, Repr

/-- The arbiter (R74): the holder, and at most one claim waiting from each claimant. -/
structure Arbiter where
  holder : Holder
  waitEdge : Option EdgeKind
  waitRequest : Bool
  waitScrub : Bool
deriving DecidableEq, Repr

/-! ### The schedule engine's demand set (R92) -/

structure Contribution where
  slot : SlotId
  pass : PassId
  tier : Tier
  flow : Nat
deriving DecidableEq, Repr

structure PauseClaim where
  slot : SlotId
  target : Target
  count : Nat
  unloadCount : Nat
deriving DecidableEq, Repr

/-- R92. `requests0` and `requests1` are the tier requests R(p,0) and R(p,1). -/
structure DemandSet where
  interval : BitVec 32
  kind : EdgeKind
  contributions : List Contribution
  unserved : List SlotId
  requests0 : Vector Nat 6
  requests1 : Vector Nat 6
  forced : Vector Bool 6
  claims : List PauseClaim
  held : List SlotId
  release : List SlotId
deriving DecidableEq, Repr

/-! ### The pause block -/

/-- R128. -/
inductive Phase where
  | unload | stop
deriving DecidableEq, Repr

/-- One entry of an assignment list (R51, R127). -/
structure Assignment where
  unit : UnitId
  phase : Phase
  unloadLeft : Nat
deriving DecidableEq, Repr

/-- One unit of the unit order set (R135). The order is `none` where the unit has none. -/
structure UnitOrder where
  availability : Availability
  order : Option Phase
  slot : Option SlotId
deriving DecidableEq, Repr

/-- R135. -/
structure UnitOrderSet where
  units : Vector UnitOrder 12
  rCap : Nat
deriving DecidableEq, Repr

/-- A unit's pair of order lines (R139): `true` is high. -/
structure LinePair where
  unload : Bool
  stop : Bool
deriving DecidableEq, Repr

/-- The pause block (R124 to R139). An entry of a rotation table is `none` for EMPTY (R136). -/
structure PauseBlock where
  availability : Vector Availability 12
  lists : Vector (List Assignment) 64
  live : Vector (Option UnitId) 32
  shadow : Vector (Option UnitId) 32
  pointer : PhaseId
  loadPending : Bool
  report : Option (Vector Availability 12)
  orders : Option UnitOrderSet
  lines : Vector LinePair 12
deriving DecidableEq, Repr

/-! ### The apportioner -/

/-- R101. -/
inductive HoldStyle where
  | safe | keep
deriving DecidableEq, Repr

/-- The settings held per pass (R101). -/
structure PassSettings where
  max : Nat
  rampUp : Nat
  rampDown : Nat
  safe : Nat
deriving DecidableEq, Repr

/-- The live flow settings (R101, R102). -/
structure FlowSettings where
  residual : Nat
  fallback : Nat
  staleLimit : Nat
  passes : Vector PassSettings 6
  ratings : Vector Nat 12
  classMap : Vector Tier 8
  style : HoldStyle
deriving DecidableEq, Repr

/-- The staged settings of a pass (R102). -/
structure StagedPass where
  max : Option Nat
  rampUp : Option Nat
  rampDown : Option Nat
  safe : Option Nat
deriving DecidableEq, Repr

/-- The staged flow settings (R102): each absent or present with a waiting value. -/
structure StagedSettings where
  residual : Option Nat
  fallback : Option Nat
  staleLimit : Option Nat
  passes : Vector StagedPass 6
  ratings : Vector (Option Nat) 12
  classMap : Vector (Option Tier) 8
  style : Option HoldStyle
deriving DecidableEq, Repr

/-- A pass's binding state (R104). -/
structure PassBinding where
  live : Binding
  setpoint : Nat
  pulse : Bool
  staged : Option (Binding × Nat)
deriving DecidableEq, Repr

/-- One pass of the interval record (R122): R, R' and g per tier, T_p and d. -/
structure PassFigures where
  binding : Binding
  forced : Bool
  r0 : Nat
  r1 : Nat
  c0 : Nat
  c1 : Nat
  g0 : Nat
  g1 : Nat
  target : Nat
  delivered : Nat
deriving DecidableEq, Repr

/-- The interval record (R122). Its per-unit part is copied whole from the unit order set, availability with it, as R135
says; R122 lists only the order and the slot (DEDUCED, notes/assumptions/17.md). -/
structure IntervalRecord where
  interval : BitVec 32
  kind : EdgeKind
  styleApplied : Option HoldStyle
  qUsed : Nat
  age : Nat
  fallbackUsed : Bool
  m : Nat
  w0 : Nat
  d0 : Nat
  g0 : Nat
  w1 : Nat
  d1 : Nat
  g1 : Nat
  residue : Nat
  passes : Vector PassFigures 6
  d : Nat
  rCap : Nat
  tCeil : Nat
  tt : Nat
  spill : Nat
  deficit : Nat
  units : Vector UnitOrder 12
  lowRiver : Bool
  deficitRaised : Bool
  shortfall0 : Bool
  shortfall1 : Bool
  inflowStale : Bool
deriving DecidableEq, Repr

/-- The apportioner's state (R97, R102, R104, R116, R122). -/
structure Apportioner where
  heldInflow : Option Nat
  reportMarker : Bool
  age : Nat
  fallbackFlag : Bool
  live : FlowSettings
  staged : StagedSettings
  bindings : Vector PassBinding 6
  delivered : Vector Nat 6
  record : Option IntervalRecord
deriving DecidableEq, Repr

/-! ### Order output -/

/-- The contents of a frame on the order link (R190, R191). `kind` is absent in the stand-down frame. -/
structure OrderFrame where
  interval : BitVec 32
  kind : Option EdgeKind
  standby : Bool
  hold : Bool
  deficit : Bool
  stale : Bool
  forced : Vector Bool 6
  setpoints : Vector Nat 6
  tt : Nat
  spill : Nat
  qUsed : Nat
deriving DecidableEq, Repr

/-- Order output (R189): the frame being sent (`none`: IDLE), the waiting frames, and the sent-since-START flag. -/
structure OrderOutput where
  sending : Option OrderFrame
  waitStandDown : Option OrderFrame
  waitOrder : Option (OrderFrame × Vector UnitOrder 12)
  sentSinceStart : Bool
deriving DecidableEq, Repr

/-! ### The sensor block -/

/-- A sensor line (R143). -/
structure SensorLine where
  mode : LineMode
  enable : Bool
  base : SampleBase
  prescale : Fin 8
  filter : Filter
  pending : Bool
deriving DecidableEq, Repr

/-- A condition's source (R154): HOST, or a line with its inversion. -/
inductive CondSource where
  | host
  | line (m : LineId) (inverted : Bool)
deriving DecidableEq, Repr

/-- A condition C1 to C7 (R154). -/
structure Condition where
  hostValue : Bool
  source : CondSource
deriving DecidableEq, Repr

/-! ### The integrity block -/

/-- A bank's tracking counter and overflow flag (R168). -/
structure Bank where
  count : Nat
  overflow : Bool
deriving DecidableEq, Repr

/-- R172. -/
structure Scrubber where
  next : SlotId
  enable : Bool
deriving DecidableEq, Repr

/-! ### The cause unit -/

/-- The cause set, the enable set and ALERT (R175, R180). The twelve sticky causes with an enable are numbered by
`stickyIndex` (Machine/Flags.lean); RECORD_QUARANTINED and the enable of LINE_PENDING stand apart. -/
structure CauseUnit where
  sticky : Vector Bool 12
  recordQuarantined : Bool
  enable : Vector Bool 12
  lineEnable : Bool
  alert : Bool
deriving DecidableEq, Repr

/-! ### The request port -/

/-- The statuses of R185. -/
inductive Status where
  | ok | okClamped | badField | staleHandle | tableFull | dupTag | notPermitted | retiring | immutable
  | quarantined | wrongMode | noSuch | frameError | unknownRequest
deriving DecidableEq, Repr

/-- R32. -/
inductive AmendDisposition where
  | applied | held
deriving DecidableEq, Repr

/-- R41. -/
inductive RetireDisposition where
  | freed | atEdge
deriving DecidableEq, Repr

/-- The directory entry as a response returns it (R3, R48). -/
structure DirectoryEntry where
  state : SlotState
  generation : BitVec 4
  owner : Option Issuer
  tag : BitVec 16
  target : Option Target
  retirePending : Bool
  stagedPresent : Bool
deriving DecidableEq, Repr

/-- The hold context as READ_STATUS returns it (R57, R160). -/
structure HoldReport where
  origin : Option HoldOrigin
  entry : Option (BitVec 32)
  lineHolding : Bool
  flagHolding : Bool
deriving DecidableEq, Repr

/-- The four operating states as READ_STATUS names them (R57). -/
inductive StateName where
  | standby | syncing | run | hold
deriving DecidableEq, Repr

/-- R57. The slot counts stand in the order of the eight states of R19. -/
structure StatusReport where
  state : StateName
  interval : BitVec 32
  lastEdge : Option EdgeKind
  hold : HoldReport
  counts : List (SlotState × Nat)
  age : Nat
  loadPending : Bool
deriving DecidableEq, Repr

/-- A line as READ_LINES returns it (R150). -/
structure LineReport where
  mode : LineMode
  enable : Bool
  base : SampleBase
  prescale : Fin 8
  level : Bool
  pending : Bool
deriving DecidableEq, Repr

/-- A condition as READ_LINES returns it (R150). -/
structure ConditionReport where
  hostValue : Bool
  source : CondSource
  current : Bool
deriving DecidableEq, Repr

/-- What a response's body carries. -/
inductive ResponseBody where
  | empty
  | handle (h : Handle)
  | amended (h : Handle) (d : AmendDisposition)
  | retired (h : Handle) (d : RetireDisposition)
  | window (dir : DirectoryEntry) (body : RecordBody) (staged : Option Amendment) (list : Option (List Assignment))
  | directory (dir : DirectoryEntry)
  | found (h : Handle) (st : SlotState)
  | list (found : List (Handle × SlotState)) (next : Nat)
  | interval (r : IntervalRecord)
  | status (r : StatusReport)
  | rotation (live shadow : Vector (Option UnitId) 32) (pointer : PhaseId) (pending : Bool)
  | lines (ls : Vector LineReport 8) (cs : Vector ConditionReport 7)
  | causes (sticky : Vector Bool 12) (recordQuarantined linePending : Bool) (enable : Vector Bool 12) (lineEnable : Bool)
  | causeSet (sticky : Vector Bool 12) (recordQuarantined linePending : Bool)
  | tracking (banks : Vector Bank 4)
deriving DecidableEq, Repr

/-- A response (R185). -/
structure Response where
  status : Status
  body : ResponseBody
deriving DecidableEq, Repr

/-- The request in hand while the port is WORKING: the frame handed on by REQUEST_FRAME_END (R183), or a request that
was commanded with its fields while its claim had to wait. -/
inductive InHand where
  | frame (code : Nat) (iss : Issuer) (body : List Byte)
  | request (i : Instr)
deriving DecidableEq, Repr

/-- The port state (R182); the response buffer holds a response exactly in ANSWERED. -/
inductive Port where
  | idle
  | working (r : InHand)
  | answered (r : Response)
deriving DecidableEq, Repr

/-! ### The whole part -/

/-- The state of the LW612. `freeIndex` and `pending` are the model's own. -/
structure State where
  inReset : Bool
  port : Port
  ready : Bool
  receiver : List Byte
  arb : Arbiter
  latches : List LineId
  slots : Vector Slot 64
  tagMap : List (BitVec 16 × SlotId)
  time : Timebase
  latched : Vector Bool 8
  demand : Option DemandSet
  flow : Apportioner
  pause : PauseBlock
  out : OrderOutput
  sensors : Vector SensorLine 8
  conditions : Vector Condition 7
  banks : Vector Bank 4
  scrub : Scrubber
  causes : CauseUnit
  freeIndex : Nat
  pending : List Instr
deriving DecidableEq, Repr

/-- No command stops the part: every refusal of the spec is an answer of the request port (R185), which is a next
state. There is no fault. -/
inductive Fault where
deriving DecidableEq, Repr

/-- Why a command has no meaning in the model. -/
inductive Refusal where
  /-- Raised by `exec` for a row of the table that has no meaning yet; no arm raises it. Safe: it stops. -/
  | notModelled (mnemonic : String)
deriving DecidableEq, Repr

/-- An empty filter (R64, R146, R158). -/
def Filter.initial : Filter := { previous := none, level := false }

/-- R21. -/
def Slot.initial : Slot := { generation := 0, record := none }

/-- R59, R61, R64, R68, R158 after full reset. -/
def Timebase.initial : Timebase :=
  { opState := .standby, lengthMin := 15, source := .internal, interval := 0, lastEdge := none,
    timerRunning := false, windowOpen := false, markFilter := .initial, holdLine := .initial, hostHold := false }

/-- R101. -/
def FlowSettings.initial : FlowSettings :=
  { residual := 0, fallback := 0, staleLimit := 2, passes := Vector.replicate 6 ⟨0, 0, 0, 0⟩,
    ratings := Vector.replicate 12 0, classMap := #v[0, 0, 0, 0, 1, 1, 1, 1], style := .safe }

/-- R102: the empty staged record. -/
def StagedSettings.none : StagedSettings :=
  { residual := .none, fallback := .none, staleLimit := .none,
    passes := Vector.replicate 6 ⟨.none, .none, .none, .none⟩, ratings := Vector.replicate 12 .none,
    classMap := Vector.replicate 8 .none, style := .none }

/-- R97, R102, R104, R116, R122. -/
def Apportioner.initial : Apportioner :=
  { heldInflow := none, reportMarker := false, age := 255, fallbackFlag := false, live := .initial, staged := .none,
    bindings := Vector.replicate 6 { live := .idle, setpoint := 0, pulse := false, staged := none },
    delivered := Vector.replicate 6 0, record := none }

/-- R124, R125, R127, R135, R136, R139. -/
def PauseBlock.initial : PauseBlock :=
  { availability := Vector.replicate 12 .outOfService, lists := Vector.replicate 64 [],
    live := Vector.replicate 32 none, shadow := Vector.replicate 32 none, pointer := 0, loadPending := false,
    report := none, orders := none, lines := Vector.replicate 12 ⟨false, false⟩ }

/-- R189. -/
def OrderOutput.initial : OrderOutput :=
  { sending := none, waitStandDown := none, waitOrder := none, sentSinceStart := false }

/-- R143. -/
def SensorLine.initial : SensorLine :=
  { mode := .rise, enable := false, base := .slow, prescale := 0, filter := .initial, pending := false }

/-- R175, R180: RESTART alone is set, every enable is on, ALERT is asserted. `stickyIndex` gives RESTART index 0. -/
def CauseUnit.initial : CauseUnit :=
  { sticky := (Vector.replicate 12 false).set 0 true, recordQuarantined := false, enable := Vector.replicate 12 true,
    lineEnable := true, alert := true }

/-- The part right after it leaves full reset (R192 and each chapter's values after full reset). -/
def State.reset : State :=
  { inReset := false
    port := .idle
    ready := true
    receiver := []
    arb := { holder := .nobody, waitEdge := none, waitRequest := false, waitScrub := false }
    latches := []
    slots := Vector.replicate 64 .initial
    tagMap := []
    time := .initial
    latched := Vector.replicate 8 false
    demand := none
    flow := .initial
    pause := .initial
    out := .initial
    sensors := Vector.replicate 8 .initial
    conditions := Vector.replicate 7 { hostValue := false, source := .host }
    banks := Vector.replicate 4 { count := 0, overflow := false }
    scrub := { next := 0, enable := true }
    causes := .initial
    freeIndex := 0
    pending := [] }

end Sys2Proof.Machine
end

