-- ==== Sys2Proof/Machine/Flags.lean ====
section
/-! DEFINITION. The cause set, LINE_PENDING and the ALERT line (chapter 11, R153). -/

namespace Sys2Proof.Machine

/-- The place of a sticky cause in the cause set and in the enable set. -/
def stickyIndex : Sticky → Fin 12
  | .restart => 0
  | .lowRiver => 1
  | .deficit => 2
  | .shortfall0 => 3
  | .shortfall1 => 4
  | .inflowStale => 5
  | .shortAssign => 6
  | .nullified => 7
  | .markLost => 8
  | .earlyMark => 9
  | .stageLost => 10
  | .fixOverflow => 11

/-- The twelve sticky causes, in the order of `stickyIndex`. -/
def allSticky : List Sticky :=
  [.restart, .lowRiver, .deficit, .shortfall0, .shortfall1, .inflowStale, .shortAssign, .nullified, .markLost,
    .earlyMark, .stageLost, .fixOverflow]

/-- Whether a sticky cause is set. -/
def State.hasCause (c : Sticky) (s : State) : Bool := s.causes.sticky[stickyIndex c]

/-- A block sets a sticky cause; one already set stays set (R176). -/
def State.setCause (c : Sticky) (s : State) : State :=
  { s with causes := { s.causes with sticky := s.causes.sticky.set (stickyIndex c) true } }

/-- Sets the cause where the condition holds. -/
def State.setCauseIf (b : Bool) (c : Sticky) (s : State) : State := if b then s.setCause c else s

/-- R170: a slot has been made QUARANTINED. -/
def State.setRecordQuarantined (s : State) : State :=
  { s with causes := { s.causes with recordQuarantined := true } }

/-- R153: one or more enabled lines have their pending flag set. -/
def State.linePending (s : State) : Bool := s.sensors.toList.any fun l => l.enable && l.pending

/-- R180: some sticky cause is set and has its enable on. -/
def CauseUnit.enabledSticky (c : CauseUnit) : Bool := (indices 12).any fun i => c.sticky[i] && c.enable[i]

/-- R180: ALERT is asserted while RECORD_QUARANTINED is set, or a cause is set (LINE_PENDING true) with its enable
on. -/
def State.alertLevel (s : State) : Bool :=
  s.causes.recordQuarantined || s.causes.enabledSticky || (s.linePending && s.causes.lineEnable)

/-- ALERT is driven again within the event that changed a cause, LINE_PENDING or the enable set (R180). -/
def State.driveAlert (s : State) : State :=
  { s with causes := { s.causes with alert := s.alertLevel } }

end Sys2Proof.Machine
end

