-- ==== Sys2Proof/Machine/Ops.lean ====
section
/-! DEFINITION. The operations every command is written over: slots and the tag map, checked reads and their effects
(chapter 10), the table access arbiter (R74), edges and the hold level (R60 to R73, R158), the two-sample filter, and
the unit order lines. -/

namespace Sys2Proof.Machine

/-! ### Slots -/

/-- The state a record gives its slot (R3). -/
def Life.toSlotState : Life → SlotState
  | .staged => .staged
  | .armed => .armed
  | .pending => .pending
  | .active => .active
  | .suspended => .suspended
  | .ended => .ended
  | .quarantined => .quarantined

/-- The directory state of a slot (R3). -/
def Slot.state (sl : Slot) : SlotState :=
  match sl.record with
  | none => .free
  | some r => r.life.toSlotState

/-- R3: the kind a target belongs to. -/
def Target.kind : Target → Kind
  | .pass _ => .passFlow
  | .fixed _ => .unitPause
  | .any => .unitPause

/-- A slot becomes FREE: its generation advances by one, modulo 16, and everything it held is gone (R5, R42, R81). -/
def Slot.freed (sl : Slot) : Slot := { generation := sl.generation + 1, record := none }

/-- The slot's directory entry (R3). -/
def Slot.directory (sl : Slot) : DirectoryEntry :=
  match sl.record with
  | none =>
    { state := .free, generation := sl.generation, owner := none, tag := 0, target := none, retirePending := false,
      stagedPresent := false }
  | some r =>
    { state := r.life.toSlotState, generation := sl.generation, owner := some r.owner, tag := r.tag,
      target := some r.target, retirePending := r.retirePending, stagedPresent := r.staged.isSome }

/-- How many slots are in a lifecycle state (R19, R57). -/
def State.slotCount (st : SlotState) (s : State) : Nat := s.slots.toList.countP fun sl => sl.state = st

/-- R179: one or more slots are QUARANTINED. -/
def State.anyQuarantined (s : State) : Bool := s.slots.toList.any fun sl => sl.state = .quarantined

/-- The tag map without the entry of a slot (R15). -/
def unmapSlot (i : SlotId) (m : List (BitVec 16 × SlotId)) : List (BitVec 16 × SlotId) := m.filter fun e => e.2 ≠ i

/-- The slot a non-zero tag is mapped to (R15). -/
def lookupTag (t : BitVec 16) (m : List (BitVec 16 × SlotId)) : Option SlotId :=
  (m.find? fun e => e.1 = t).map (·.2)

/-! ### Checked reads (chapter 10) -/

/-- What a checked read leaves of a record, and what it found: corrections to count, a quarantine (R170), a lost
amendment (R171). -/
structure ReadResult where
  record : Record
  fixes : Nat
  quarantined : Bool
  stageLost : Bool
deriving DecidableEq, Repr

/-- A read of the body (R167): a single-bit error is corrected and written back (R168); an uncorrectable body makes the
record QUARANTINED, its staged amendment discarded unread and retire_pending left as it was (R170). -/
def Record.readBody (r : Record) : ReadResult :=
  match r.check with
  | .clean => { record := r, fixes := 0, quarantined := false, stageLost := false }
  | .singleBit => { record := { r with check := .clean }, fixes := 1, quarantined := false, stageLost := false }
  | .uncorrectable =>
    { record := { r with life := .quarantined, staged := none }, fixes := 0, quarantined := true, stageLost := false }

/-- A read of the staged amendment, where one is held (R167): a single-bit error is corrected; an uncorrectable
amendment is discarded (R171). -/
def Record.readStaged (r : Record) : ReadResult :=
  match r.staged with
  | none => { record := r, fixes := 0, quarantined := false, stageLost := false }
  | some a =>
    match a.check with
    | .clean => { record := r, fixes := 0, quarantined := false, stageLost := false }
    | .singleBit =>
      { record := { r with staged := some { a with check := .clean } }, fixes := 1, quarantined := false,
        stageLost := false }
    | .uncorrectable => { record := { r with staged := none }, fixes := 0, quarantined := false, stageLost := true }

/-- The body first, then the staged amendment unless the body read has quarantined the slot (R167). -/
def Record.readWhole (r : Record) : ReadResult :=
  let b := r.readBody
  if b.quarantined then b
  else
    let a := b.record.readStaged
    { record := a.record, fixes := b.fixes + a.fixes, quarantined := false, stageLost := a.stageLost }

/-- What one event does to one slot, and what it reports: corrections, a quarantine, a lost amendment, a nullified
start. -/
structure SlotEffect where
  slot : Slot
  fixes : Nat
  quarantined : Bool
  stageLost : Bool
  nullified : Bool
deriving DecidableEq, Repr

/-- The slot is left as `sl` and nothing is reported. -/
def quietEffect (sl : Slot) : SlotEffect :=
  { slot := sl, fixes := 0, quarantined := false, stageLost := false, nullified := false }

/-- The effect of a checked read on a slot of generation `g`. -/
def ReadResult.effect (g : BitVec 4) (x : ReadResult) : SlotEffect :=
  { slot := { generation := g, record := some x.record }, fixes := x.fixes, quarantined := x.quarantined,
    stageLost := x.stageLost, nullified := false }

/-- R1: the bank of a slot. -/
def bankOf (i : SlotId) : BankId := ⟨i.val / 16, by omega⟩

/-- R168: one correction in a slot's bank. -/
def State.countFix (i : SlotId) (s : State) : State :=
  let b := s.banks[bankOf i]
  if b.count < Config.maxTracking then { s with banks := s.banks.set (bankOf i) { b with count := b.count + 1 } }
  else State.setCause .fixOverflow { s with banks := s.banks.set (bankOf i) { b with overflow := true } }

/-- R168: `n` corrections, each counted. -/
def State.countFixes (i : SlotId) : Nat → State → State
  | 0, s => s
  | n + 1, s => State.countFixes i n (s.countFix i)

/-- What an event at a slot reports is taken up outside the slot: the tag map loses the entry of a freed slot (R15),
the corrections are counted (R168), the causes are set (R170, R171, R87). -/
def State.noteEffect (i : SlotId) (e : SlotEffect) (s : State) : State :=
  let s := if e.slot.record.isNone then { s with tagMap := unmapSlot i s.tagMap } else s
  let s := s.countFixes i e.fixes
  let s := if e.quarantined then s.setRecordQuarantined else s
  (s.setCauseIf e.stageLost .stageLost).setCauseIf e.nullified .nullified

/-- The slot is written and what the event reports is taken up. -/
def State.applyEffect (i : SlotId) (e : SlotEffect) (s : State) : State :=
  State.noteEffect i e { s with slots := s.slots.set i e.slot }

/-! ### The table access arbiter (R74) -/

/-- No claim holds the table and no trigger latch waits to be taken (R2, R74). -/
def State.tableFree (s : State) : Bool := s.arb.holder = .nobody && s.latches.isEmpty

/-- An edge claim waits or is held (R62). -/
def State.edgeOutstanding (s : State) : Bool :=
  s.arb.waitEdge.isSome ||
    match s.arb.holder with
    | .edge _ => true
    | _ => false

/-- The edge claim is presented: granted at once on a free table, otherwise waiting (R74). -/
def State.presentEdge (k : EdgeKind) (s : State) : State :=
  if s.tableFree then { s with arb := { s.arb with holder := .edge k } }
  else { s with arb := { s.arb with waitEdge := some k } }

/-- The request port's claim is presented (R74, R75). -/
def State.presentRequest (s : State) : State :=
  if s.tableFree then { s with arb := { s.arb with holder := .request } }
  else { s with arb := { s.arb with waitRequest := true } }

/-- A scrub step's claim is presented (R74, R172). -/
def State.presentScrub (s : State) : State :=
  if s.tableFree then { s with arb := { s.arb with holder := .scrubber } }
  else { s with arb := { s.arb with waitScrub := true } }

/-- The grant rule: a free table is granted to the edge claim, else the request, else the scrub step (R74). -/
def State.grantNext (s : State) : State :=
  if s.tableFree then
    match s.arb.waitEdge with
    | some k => { s with arb := { s.arb with holder := .edge k, waitEdge := none } }
    | none =>
      if s.arb.waitRequest then { s with arb := { s.arb with holder := .request, waitRequest := false } }
      else if s.arb.waitScrub then { s with arb := { s.arb with holder := .scrubber, waitScrub := false } }
      else s
  else s

/-- The holder releases the table; latches waiting are taken before the next claim is granted (R2, R74, R151). -/
def State.releaseTable (s : State) : State :=
  State.grantNext { s with arb := { s.arb with holder := .nobody } }

/-! ### Edges and the hold level -/

/-- The interval timer (INTERNAL) or the mark window and lost-mark limit (FOLLOW) start again from an edge (R63, R65,
R66). -/
def Timebase.restart (t : Timebase) : Timebase :=
  { t with timerRunning := t.source = .internal, windowOpen := t.source = .follow }

/-- The timer is stopped and the window closed (R63, R67). -/
def Timebase.halt (t : Timebase) : Timebase := { t with timerRunning := false, windowOpen := false }

/-- The change of the timebase that goes with an edge of each kind (R60, R63, R65, R71, R160). -/
def Timebase.atEdge (k : EdgeKind) (t : Timebase) : Timebase :=
  match k with
  | .start => { t with opState := .run }.restart
  | .timed => t.restart
  | .mark => t.restart
  | .self => t.restart
  | .holdEntry => { t with opState := .hold .run (t.interval + 1) }.halt
  | .holdExit => { t with opState := .run }.restart

/-- An edge is raised: the timebase changes with it and presents one edge claim (R60). -/
def State.raiseEdge (k : EdgeKind) (s : State) : State :=
  State.presentEdge k { s with time := s.time.atEdge k }

/-- What START does with the hold released, and the release of a hold of origin STARTING (R69, R71, R165). -/
def State.startReleased (s : State) : State :=
  match s.time.source with
  | .internal => s.raiseEdge .start
  | .follow => { s with time := { s.time with opState := .syncing } }

/-- R158: the hold level is asserted while one or both owners hold it. -/
def State.holdLevel (s : State) : Bool := s.time.holdLine.level || s.time.hostHold

/-- The timebase takes a change of the hold level, by operating state and origin (R71, R165). -/
def State.takeHoldChange (s : State) : State :=
  match s.time.opState, s.holdLevel with
  | .run, true => s.raiseEdge .holdEntry
  | .syncing, true => { s with time := { s.time with opState := .hold .syncing s.time.interval } }
  | .hold .run _, false => s.raiseEdge .holdExit
  | .hold .syncing _, false => { s with time := { s.time with opState := .syncing } }
  | .hold .starting _, false => s.startReleased
  | _, _ => s

/-- An owner of the hold changes, `t` being the timebase after it. A change of the level is taken at once, unless an
edge claim waits or is held, which defers it (R62, R71, R158). -/
def State.changeHoldOwner (t : Timebase) (s : State) : State :=
  let s' := { s with time := t }
  if s'.holdLevel = s.holdLevel || s'.edgeOutstanding then s' else s'.takeHoldChange

/-- R62: when an edge claim is released the hold level is compared with the state, and a hold edge is raised where
they disagree. -/
def State.compareHold (s : State) : State :=
  match s.time.opState, s.holdLevel with
  | .run, true => s.raiseEdge .holdEntry
  | .hold .run _, false => s.raiseEdge .holdExit
  | _, _ => s

/-! ### The two-sample filter -/

/-- One sample (R64, R146, R158): the filtered level takes the sample when it equals the previous one and differs from
the filtered level; the sample becomes the previous sample. -/
def Filter.sample (x : Bool) (f : Filter) : Filter :=
  { previous := some x, level := if f.previous = some x then x else f.level }

/-- The filter before the sample that makes the transition to `x` (R64, R146): the previous sample was `x` already and the
filtered level is still the other one. -/
def Filter.before (x : Bool) : Filter := { previous := some x, level := !x }

/-- The filtered level rises at this sample. -/
def Filter.rises (x : Bool) (f : Filter) : Bool := !f.level && (f.sample x).level

/-- The filtered level falls at this sample. -/
def Filter.falls (x : Bool) (f : Filter) : Bool := f.level && !(f.sample x).level

/-! ### Conditions and the line snapshot -/

/-- R154: the current value of a condition. -/
def currentValue (sensors : Vector SensorLine 8) (c : Condition) : Bool :=
  match c.source with
  | .host => c.hostValue
  | .line m inverted => xor sensors[m].filter.level inverted

/-- R78: the eight values an edge of kind `k` latches; C0 is true at a HOLD_ENTRY edge alone. -/
def State.conditionsAt (k : EdgeKind) (s : State) : Vector Bool 8 :=
  Vector.ofFn fun c =>
    match index? 7 (c.val - 1) with
    | some i => if c = 0 then decide (k = .holdEntry) else currentValue s.sensors s.conditions[i]
    | none => false

/-- R79, R152: a line matches at an edge when it is enabled, in a level mode, and at the level the mode names. -/
def SensorLine.matchesLevel (l : SensorLine) : Bool :=
  l.enable &&
    match l.mode with
    | .high => l.filter.level
    | .low => !l.filter.level
    | _ => false

/-- R79: which lines match in the snapshot an edge takes. -/
def State.lineSnapshot (s : State) : Vector Bool 8 := mapTable (fun _ l => l.matchesLevel) s.sensors

/-! ### Units -/

/-- Both lines low: RUN (R139). -/
def LinePair.run : LinePair := { unload := false, stop := false }

/-- The lines for an order (R139). -/
def orderLines : Option Phase → LinePair
  | none => .run
  | some .unload => { unload := true, stop := false }
  | some .stop => { unload := false, stop := true }

/-- The slot and list entry of a unit, where it is on a list: the unit table's assigned slot, phase and unload
remaining (R124). -/
def unitOf (lists : Vector (List Assignment) 64) (u : UnitId) : Option (SlotId × Assignment) :=
  (indices 64).findSome? fun i => (lists[i].find? fun a => a.unit = u).map fun a => (i, a)

/-- The unit stands on some list (R124). -/
def assigned (lists : Vector (List Assignment) 64) (u : UnitId) : Bool :=
  lists.toList.any fun l => l.any fun a => a.unit = u

/-- The lines of the units `lost` names go low (R139). -/
def dropLines (lost : UnitId → Bool) (lines : Vector LinePair 12) : Vector LinePair 12 :=
  mapTable (fun u l => if lost u then .run else l) lines

end Sys2Proof.Machine
end

