-- ==== Sys2Proof/Machine/Claims.lean ====
section
/-! DEFINITION. How a request comes to run: one request in hand at a time (R182), one claim for each (R75), executed
while it holds the table, answered when it ends. A request's command IS its claim's execution. Commanded with no request
in hand on a free table, it stands for its frame's arrival, its grant and its execution together; commanded while
another claim holds the table, it is taken in hand and waits (R74), and runs when commanded again after its grant. -/

namespace Sys2Proof.Machine

/-- R186: the request code, and the issuer, of a request. -/
def requestOf : Instr → Option (Nat × Issuer)
  | .openWindow i _ => some (0x01, i)
  | .amendWindow i _ => some (0x02, i)
  | .retireWindow i _ => some (0x03, i)
  | .purge i _ => some (0x04, i)
  | .readWindow i _ => some (0x05, i)
  | .findTag i _ => some (0x06, i)
  | .listWindows i _ => some (0x07, i)
  | .readInterval i _ => some (0x08, i)
  | .readStatus i _ => some (0x09, i)
  | .reportInflow i _ => some (0x0A, i)
  | .reportUnits i _ => some (0x0B, i)
  | .setBinding i _ => some (0x0C, i)
  | .setSettings i _ => some (0x0D, i)
  | .loadRotation i _ => some (0x0E, i)
  | .readRotation i _ => some (0x0F, i)
  | .setLine i _ => some (0x10, i)
  | .readLines i _ => some (0x11, i)
  | .ackLines i _ => some (0x12, i)
  | .setCondition i _ => some (0x13, i)
  | .setConditionSource i _ => some (0x14, i)
  | .start i _ => some (0x15, i)
  | .stop i _ => some (0x16, i)
  | .holdOn i _ => some (0x17, i)
  | .holdOff i _ => some (0x18, i)
  | .readCauses i _ => some (0x19, i)
  | .ackCauses i _ => some (0x1A, i)
  | .setAlertMask i _ => some (0x1B, i)
  | .clearTracking i _ => some (0x1C, i)
  | .requestFrameEnd _ _ => none
  | .intervalTimerExpiry => none
  | .mark _ => none
  | .lostMarkLimitExpiry => none
  | .holdLineChange _ => none
  | .edgeClaimGrant => none
  | .frameTransmitDone => none
  | .lineEvent _ _ => none
  | .triggerLatch _ => none
  | .scrubStepDue => none
  | .scrubStep => none
  | .fullReset _ => none
  | .leaveReset => none
  | .sensorLineSample _ _ => none
  | .markSample _ _ => none

/-- A body of no fields fits the bytes exactly when it has none (R186). -/
def emptyBodyFits (b : Body Unit) (bytes : List Byte) : Bool :=
  match b with
  | .mismatch => !bytes.isEmpty
  | .fields _ => bytes.isEmpty

/-- Whether the body of a command can be the one the frame carried. The spec lays out the bodies of SET_SETTINGS and of
the requests that carry no fields; of the others it states no layout (notes/assumptions/4.md). -/
def bodyFits (i : Instr) (bytes : List Byte) : Bool :=
  match i with
  | .setSettings _ b => decide (b = bytes)
  | .purge _ b => emptyBodyFits b bytes
  | .readInterval _ b => emptyBodyFits b bytes
  | .readStatus _ b => emptyBodyFits b bytes
  | .readRotation _ b => emptyBodyFits b bytes
  | .readLines _ b => emptyBodyFits b bytes
  | .start _ b => emptyBodyFits b bytes
  | .stop _ b => emptyBodyFits b bytes
  | .holdOn _ b => emptyBodyFits b bytes
  | .holdOff _ b => emptyBodyFits b bytes
  | .readCauses _ b => emptyBodyFits b bytes
  | .clearTracking _ b => emptyBodyFits b bytes
  | _ => true

/-- The command executes the request in hand. -/
def InHand.runs (h : InHand) (i : Instr) : Bool :=
  match h with
  | .frame code iss bytes => decide (requestOf i = some (code, iss)) && bodyFits i bytes
  | .request j => decide (i = j)

/-- What becomes of a request's command. -/
inductive Admission where
  /-- It is not taken: the part is in reset (R192), or another request is in hand (R182). -/
  | ignored
  /-- Its claim waits and it is already in hand. -/
  | waiting
  /-- It is taken in hand and its claim waits (R74). -/
  | queued
  /-- Its claim holds the table: it executes. -/
  | granted
deriving DecidableEq, Repr

/-- R74, R75, R182, R192. -/
def State.admission (i : Instr) (s : State) : Admission :=
  if s.inReset then .ignored
  else
    match s.port with
    | .working h =>
      if h.runs i then (if s.arb.holder = .request then .granted else .waiting) else .ignored
    | _ => if s.tableFree then .granted else .queued

/-- The request is taken in hand, its claim waits and READY falls (R75, R182). -/
def State.queueRequest (i : Instr) (s : State) : State :=
  State.presentRequest { s with port := .working (.request i), ready := false }

/-- The request's claim holds the table (R75). -/
def State.holdForRequest (s : State) : State := { s with arb := { s.arb with holder := .request } }

/-- The claim ends: the response is written into the buffer, the port becomes ANSWERED, READY rises, and the table is
released (R75, R182, R183). -/
def State.answer (r : Response) (s : State) : State :=
  State.releaseTable { s with port := .answered r, ready := true }

/-- A response with no body (R185). -/
def Response.bare (st : Status) : Response := { status := st, body := .empty }

/-- The outcome of a request's command whose execution is `work`. -/
def runRequest (i : Instr) (work : State → State × Response) (s : State) :
    Host.Outcome State Fault Refusal :=
  match s.admission i with
  | .ignored => .next s
  | .waiting => .next s
  | .queued => .next (s.queueRequest i)
  | .granted =>
    let (s', r) := work s.holdForRequest
    .next (s'.answer r)

/-- A request whose body must carry fields: a body that does not match is refused with BAD_FIELD (R186). -/
def withFields {α : Type} (b : Body α) (work : α → State → State × Response) (s : State) : State × Response :=
  match b with
  | .mismatch => (s, .bare .badField)
  | .fields a => work a s

/-- The outcome of an event of the part outside the requests: nothing happens while the part is in reset (R192). -/
def outsideReset (s : State) (act : State → State) : Host.Outcome State Fault Refusal :=
  if s.inReset then .next s else .next (act s)

end Sys2Proof.Machine
end

