-- ==== Sys2Proof/Machine/Operands.lean ====
section
/-! DEFINITION. The checks on the raw fields of requests: each turns what a frame may carry into what the part holds, or
answers `none`, which the request refuses with BAD_FIELD. -/

namespace Sys2Proof.Machine

/-- An optional field: absent stays absent, a present one must pass its check. -/
def checkOpt {α β : Type} (check : α → Option β) : Option α → Option (Option β)
  | none => some none
  | some a => (check a).map some

/-- A value from `lo` to `hi`. -/
def checkRange (lo hi n : Nat) : Option Nat := if lo ≤ n ∧ n ≤ hi then some n else none

/-! ### Handles (R13) -/

/-- R13, range check: slot number 0 to 63 and generation 0 to 15. -/
def checkHandle (h : RawHandle) : Option Handle :=
  match index? 64 h.slot with
  | some i => if h.generation < 16 then some { slot := i, generation := BitVec.ofNat 4 h.generation } else none
  | none => none

/-- R13: the handle is accepted when the slot is not FREE and its generation is the handle's. -/
def State.recordOf (h : Handle) (s : State) : Option Record :=
  if s.slots[h.slot].generation = h.generation then s.slots[h.slot].record else none

/-! ### OPEN_WINDOW (R25, R26) -/

/-- R26: the target must belong to the kind and name a pass or unit the station has. -/
def checkTarget (k : Kind) (t : RawTarget) : Option Target :=
  match k, t with
  | .passFlow, .pass n => (index? 6 n).map .pass
  | .unitPause, .fixed n => (index? 12 n).map .fixed
  | .unitPause, .any => some .any
  | _, _ => none

/-- R26: condition 0 to 7, polarity and mode each one of its two values. -/
def checkGuard (g : RawGuard) : Option Guard :=
  match index? 8 g.condition, g.polarity, g.mode with
  | some c, some p, some m => some { condition := c, polarity := p, mode := m }
  | _, _, _ => none

/-- R26: a trigger line from 0 to 7 with TRIGGER, and none with IMMEDIATE. -/
def checkStart (m : StartMode) (line : Option Nat) : Option (Option LineId) :=
  match m, line with
  | .immediate, none => some none
  | .trigger, some n => (index? 8 n).map some
  | _, _ => none

/-- R26: requested_flow is carried for PASS_FLOW and for no other kind. -/
def checkFlow (t : Target) (v : Option (BitVec 16)) : Option (Option Nat) :=
  match t, v with
  | .pass _, some v => some (some v.toNat)
  | .pass _, none => none
  | _, none => some none
  | _, some _ => none

/-- R25, R26: pause_count is 1 to 12 with ANY, 1 or omitted with FIXED, and not carried for PASS_FLOW. -/
def checkPause (t : Target) (v : Option Nat) : Option (Option Nat) :=
  match t, v with
  | .pass _, none => some none
  | .any, some n => (checkRange 1 12 n).map some
  | .fixed _, none => some (some 1)
  | .fixed _, some n => if n = 1 then some (some 1) else none
  | _, _ => none

/-- R26: unload_count is 0 to 15 for UNIT_PAUSE, and not carried for PASS_FLOW. -/
def checkUnload (t : Target) (v : Option Nat) : Option (Option Nat) :=
  match t, v with
  | .pass _, none => some none
  | .fixed _, some n => (checkRange 0 15 n).map some
  | .any, some n => (checkRange 0 15 n).map some
  | _, _ => none

/-- R26, R29: the target and the body of the new record before the clamp of R30, or `none` for a structural fault. The
runtime fields take their values at open (R10). -/
def checkOpen (f : OpenFields) : Option (Target × RecordBody) := do
  let kind ← f.kind
  let target ← checkTarget kind f.target
  let mode ← f.startMode
  let line ← checkStart mode f.triggerLine
  let pause ← checkPause target f.pauseCount
  let unload ← checkUnload target f.unloadCount
  let flow ← checkFlow target f.requestedFlow
  let cls ← index? 8 f.cls
  let guard ← checkOpt checkGuard f.guard
  return (target,
    { cls := cls, requestedFlow := flow, pauseCount := pause, unloadCount := unload, startMode := mode,
      triggerLine := line, startOffset := f.startOffset.toNat, length := f.length.toNat,
      repeats := f.repeats.toNat, guard := guard, autoRelease := f.autoRelease, lead := 0, elapsed := 0,
      runsLeft := 0, triggerSeen := line.map fun _ => false, servedFlow := flow.map fun _ => 0 })

/-! ### The clamp of requested_flow (R11, R30) -/

/-- The maximum in force of the record's pass; a UNIT_PAUSE record has no flow to clamp. -/
def State.flowLimit (t : Target) (s : State) : Nat :=
  match t with
  | .pass p => s.flow.live.passes[p].max
  | _ => 0

/-- R30: the clamp acts on a given flow above the limit. -/
def flowClamped (limit : Nat) : Option Nat → Bool
  | some v => decide (limit < v)
  | none => false

/-- R30: OK, or OK_CLAMPED where the clamp acted. -/
def okStatus (clamped : Bool) : Status := if clamped then .okClamped else .ok

/-! ### AMEND_WINDOW (R32 to R35) -/

/-- R17: the amendment names class 0 or class 1. -/
def namesTopClass (f : AmendFields) : Bool :=
  match f.cls with
  | some c => decide (c ≤ 1)
  | none => false

/-- R32: at least one of the nine amendable fields is named. -/
def namesField (f : AmendFields) : Bool :=
  f.cls.isSome || f.requestedFlow.isSome || f.length.isSome || f.repeats.isSome || f.guard.isSome ||
    f.autoRelease.isSome || f.pauseCount.isSome || f.unloadCount.isSome || f.startOffset.isSome

/-- R35. -/
def checkGuardChange : RawGuardChange → Option GuardChange
  | .given g => (checkGuard g).map .given
  | .remove => some .remove

/-- R35: requested_flow is refused for a UNIT_PAUSE record. -/
def checkAmendFlow (t : Target) (v : BitVec 16) : Option Nat :=
  match t with
  | .pass _ => some v.toNat
  | _ => none

/-- R35: pause_count only with ANY, 1 to 12. -/
def checkAmendPause (t : Target) (n : Nat) : Option Nat :=
  match t with
  | .any => checkRange 1 12 n
  | _ => none

/-- R35: unload_count only for UNIT_PAUSE, 0 to 15. -/
def checkAmendUnload (t : Target) (n : Nat) : Option Nat :=
  match t with
  | .pass _ => none
  | _ => checkRange 0 15 n

/-- R33, check 7: every named field is present for the record and in range, at least one is named, and the body matches
its fields (R186). -/
def checkAmend (t : Target) (f : AmendFields) : Option Amendment := do
  let cls ← checkOpt (index? 8) f.cls
  let flow ← checkOpt (checkAmendFlow t) f.requestedFlow
  let guard ← checkOpt checkGuardChange f.guard
  let pause ← checkOpt (checkAmendPause t) f.pauseCount
  let unload ← checkOpt (checkAmendUnload t) f.unloadCount
  if namesField f && !f.malformed then
    return { cls := cls, requestedFlow := flow, length := f.length.map (·.toNat), repeats := f.repeats.map (·.toNat),
             guard := guard, autoRelease := f.autoRelease, pauseCount := pause, unloadCount := unload,
             startOffset := f.startOffset.map (·.toNat) }
  else none

/-- R17: the owner or AUTHORITY. -/
def mayChange (iss owner : Issuer) : Bool := decide (iss = owner) || decide (iss = .authority)

/-! ### LIST_WINDOWS (R54) -/

/-- A checked filter (R54). `none` is ALL. -/
structure ListFilter where
  states : List SlotState
  kind : Option Kind
  target : Option Target
  owner : Option Issuer
deriving DecidableEq, Repr

/-- One part of the filter: ALL, a value that passes its check, or a refusal. -/
def checkPart {α β : Type} (check : α → Option β) : FilterPart α → Option (Option β)
  | .all => some none
  | .only a => (check a).map some
  | .outside => none

/-- R54: a target part names a pass 0 to 5, FIXED with a unit 0 to 11, or ANY. -/
def checkListTarget : RawTarget → Option Target
  | .pass n => (index? 6 n).map .pass
  | .fixed n => (index? 12 n).map .fixed
  | .any => some .any

/-- Every value of the list is one of those named. -/
def allNamed {α : Type} : List (Option α) → Option (List α)
  | [] => some []
  | none :: _ => none
  | some a :: l => (allNamed l).map (a :: ·)

/-- R54: the filter and cursor, or `none` for a refusal. -/
def checkList (f : ListFields) : Option (ListFilter × Nat) := do
  let states ← allNamed f.states
  let kind ← checkPart some f.kind
  let target ← checkPart checkListTarget f.target
  let owner ← checkPart some f.owner
  if states.isEmpty || 64 < f.cursor then none
  else return ({ states := states, kind := kind, target := target, owner := owner }, f.cursor)

/-- A part of the filter against a directory field, which is absent for a FREE slot: ALL, or the value is the one
named (R54). -/
def partMatches {α : Type} [DecidableEq α] : Option α → Option α → Bool
  | none, _ => true
  | some a, field => decide (field = some a)

/-- R54: the slot matches the filter when all four parts match its directory entry. -/
def ListFilter.accepts (f : ListFilter) (sl : Slot) : Bool :=
  let e := sl.directory
  decide (e.state ∈ f.states) && partMatches f.kind (e.target.map Target.kind) && partMatches f.target e.target &&
    partMatches f.owner e.owner

/-! ### SET_SETTINGS (R187, section 12.5) -/

/-- The settings of section 12.5, each with its index where it has one. -/
inductive Setting where
  | length | timebase | residual | fallback | staleLimit
  | passMax (p : PassId) | rampUp (p : PassId) | rampDown (p : PassId) | safe (p : PassId)
  | rating (u : UnitId) | classMap (c : ClassId) | style | scrubber
deriving DecidableEq, Repr

/-- A setting held for the station: its index is 0. -/
def stationSetting (st : Setting) (idx : Nat) : Option Setting := if idx = 0 then some st else none

/-- R187, checks 2 and 3. -/
def settingOf (code idx : Nat) : Option Setting :=
  match code with
  | 0x01 => stationSetting .length idx
  | 0x02 => stationSetting .timebase idx
  | 0x03 => stationSetting .residual idx
  | 0x04 => stationSetting .fallback idx
  | 0x05 => stationSetting .staleLimit idx
  | 0x06 => (index? 6 idx).map .passMax
  | 0x07 => (index? 6 idx).map .rampUp
  | 0x08 => (index? 6 idx).map .rampDown
  | 0x09 => (index? 6 idx).map .safe
  | 0x0A => (index? 12 idx).map .rating
  | 0x0B => (index? 8 idx).map .classMap
  | 0x0C => stationSetting .style idx
  | 0x0D => stationSetting .scrubber idx
  | _ => none

/-- R187, check 5: the value is in its range (R59, R101). A safe value is never refused (R103). -/
def settingInRange : Setting → Nat → Bool
  | .length, v => decide (1 ≤ v ∧ v ≤ Config.maxLength)
  | .timebase, v => decide (v ≤ 1)
  | .residual, v => decide (v ≤ Config.maxResidual)
  | .fallback, v => decide (v ≤ Config.maxInflow)
  | .staleLimit, v => decide (1 ≤ v ∧ v ≤ Config.maxStaleLimit)
  | .passMax _, v => decide (v ≤ Config.maxPassFlow)
  | .rampUp _, v => decide (v ≤ Config.maxPassFlow)
  | .rampDown _, v => decide (v ≤ Config.maxPassFlow)
  | .safe _, _ => true
  | .rating _, v => decide (v ≤ Config.maxRating)
  | .classMap c, v => decide (v ≤ 1) && !(decide (c = 0) && decide (v = 1))
  | .style, v => decide (v ≤ 1)
  | .scrubber, v => decide (v ≤ 1)

/-- The items of a body: four bytes each, code, index and value, high byte first (12.5); `none` where the body is not a
whole number of items. -/
def parseItems : List Byte → Option (List (Nat × Nat × Nat))
  | [] => some []
  | c :: i :: hi :: lo :: rest => (parseItems rest).map ((c.toNat, i.toNat, hi.toNat * 256 + lo.toNat) :: ·)
  | _ => none

/-- Each item's setting, with its value (R187, checks 2, 3 and 5). -/
def checkItems : List (Nat × Nat × Nat) → Option (List (Setting × Nat))
  | [] => some []
  | (c, i, v) :: rest =>
    match settingOf c i with
    | some st => if settingInRange st v then (checkItems rest).map ((st, v) :: ·) else none
    | none => none

/-- R187, checks 1 to 5. -/
def checkSettings (bytes : List Byte) : Option (List (Setting × Nat)) :=
  match parseItems bytes with
  | none => none
  | some raw =>
    if 1 ≤ raw.length ∧ raw.length ≤ Config.maxItems then
      match checkItems raw with
      | some items => if (items.map (·.1)).Nodup then some items else none
      | none => none
    else none

/-- The value an item list gives a setting. -/
def itemValue (st : Setting) (items : List (Setting × Nat)) : Option Nat :=
  (items.find? fun e => e.1 = st).map (·.2)

/-! ### The other requests -/

/-- R125: twelve values, each AVAILABLE or OUT_OF_SERVICE. -/
def checkReport (l : List (Option Availability)) : Option (Vector Availability 12) :=
  match allNamed l with
  | some vs => if h : vs.length = 12 then some ⟨vs.toArray, by simp [h]⟩ else none
  | none => none

/-- R137: an entry is a unit 0 to 11, or 15 for EMPTY. -/
def checkEntry (n : Nat) : Option (Option UnitId) :=
  if n = 15 then some none else (index? 12 n).map some

/-- Every entry of a rotation table passes its check. -/
def checkEntries : List Nat → Option (List (Option UnitId))
  | [] => some []
  | n :: rest =>
    match checkEntry n with
    | some e => (checkEntries rest).map (e :: ·)
    | none => none

/-- R137: 32 entries. -/
def checkRotation (l : List Nat) : Option (Vector (Option UnitId) 32) :=
  match checkEntries l with
  | some es => if h : es.length = 32 then some ⟨es.toArray, by simp [h]⟩ else none
  | none => none

/-- R149: every line named is 0 to 7. -/
def checkLines : List Nat → Option (List LineId)
  | [] => some []
  | n :: rest =>
    match index? 8 n with
    | some m => (checkLines rest).map (m :: ·)
    | none => none

/-- The index of a condition C1 to C7, `none` for C0 and for a number above 7 (R155, R156). -/
def checkCondition (n : Nat) : Option (Fin 7) := if n = 0 then none else index? 7 (n - 1)

/-- R156: HOST without an inversion, or a line 0 to 7 with one. -/
def checkSource : RawSource → Option CondSource
  | .host none => some .host
  | .host (some _) => none
  | .line n (some inv) => (index? 8 n).map fun m => .line m inv
  | .line _ none => none
  | .other => none

end Sys2Proof.Machine
end

