-- ==== Sys2Proof/Machine/Causes.lean ====
section
/-! DEFINITION. READ_CAUSES, ACK_CAUSES and SET_ALERT_MASK (chapter 11). -/

namespace Sys2Proof.Machine

/-- READ_CAUSES (R178). -/
def readCauses (_ : Unit) (s : State) : State × Response :=
  (s,
    { status := .ok,
      body := .causes s.causes.sticky s.causes.recordQuarantined s.linePending s.causes.enable s.causes.lineEnable })

/-- READ_CAUSES (R178). -/
def execReadCauses (iss : Issuer) (b : Body Unit) (s : State) : Host.Outcome State Fault Refusal :=
  runRequest (.readCauses iss b) (withFields b readCauses) s

/-- A sticky cause is among those named. -/
def namesSticky (cs : List Cause) (i : Fin 12) : Bool :=
  cs.any fun c =>
    match c with
    | .sticky c => decide (stickyIndex c = i)
    | _ => false

/-- R179: the cause unit after an acknowledgement; `locked` while a slot is QUARANTINED. -/
def CauseUnit.ack (cs : List Cause) (locked : Bool) (u : CauseUnit) : CauseUnit :=
  { u with
    sticky := mapTable (fun i x => x && !namesSticky cs i) u.sticky
    recordQuarantined := u.recordQuarantined && (locked || !decide (Cause.recordQuarantined ∈ cs)) }

/-- ACK_CAUSES (R179). -/
def ackCauses (l : List (Option Cause)) (s : State) : State × Response :=
  match allNamed l with
  | none => (s, .bare .badField)
  | some cs =>
    let s' := State.driveAlert { s with causes := s.causes.ack cs s.anyQuarantined }
    (s', { status := .ok, body := .causeSet s'.causes.sticky s'.causes.recordQuarantined s'.linePending })

/-- ACK_CAUSES (R179). -/
def execAckCauses (iss : Issuer) (b : Body (List (Option Cause))) (s : State) : Host.Outcome State Fault Refusal :=
  runRequest (.ackCauses iss b) (withFields b ackCauses) s

/-- R177: the enables after SET_ALERT_MASK. -/
def CauseUnit.setMask (cs : List Cause) (u : CauseUnit) : CauseUnit :=
  { u with
    enable := Vector.ofFn (namesSticky cs)
    lineEnable := decide (Cause.linePending ∈ cs) }

/-- SET_ALERT_MASK (R177). -/
def setAlertMask (l : List (Option Cause)) (s : State) : State × Response :=
  match allNamed l with
  | none => (s, .bare .badField)
  | some cs =>
    if Cause.recordQuarantined ∈ cs then (s, .bare .badField)
    else (State.driveAlert { s with causes := s.causes.setMask cs }, .bare .ok)

/-- SET_ALERT_MASK (R177). -/
def execSetAlertMask (iss : Issuer) (b : Body (List (Option Cause))) (s : State) : Host.Outcome State Fault Refusal :=
  runRequest (.setAlertMask iss b) (withFields b setAlertMask) s

end Sys2Proof.Machine
end

