-- ==== Sys2Proof/Machine/Settings.lean ====
section
/-! DEFINITION. The inflow report, the station settings with their staging and cuts, and the pass bindings (R97 to R107,
R187): SET_SETTINGS, SET_BINDING and REPORT_INFLOW, and what a grant or STOP makes of what they staged. -/

namespace Sys2Proof.Machine

/-! ### Writing settings (R102, R103) -/

/-- Every present staged value is written (R102). -/
def FlowSettings.write (st : StagedSettings) (f : FlowSettings) : FlowSettings :=
  { residual := st.residual.getD f.residual
    fallback := st.fallback.getD f.fallback
    staleLimit := st.staleLimit.getD f.staleLimit
    passes := mapTable
      (fun p x =>
        { max := st.passes[p].max.getD x.max
          rampUp := st.passes[p].rampUp.getD x.rampUp
          rampDown := st.passes[p].rampDown.getD x.rampDown
          safe := st.passes[p].safe.getD x.safe })
      f.passes
    ratings := mapTable (fun u x => st.ratings[u].getD x) f.ratings
    classMap := mapTable (fun c x => st.classMap[c].getD x) f.classMap
    style := st.style.getD f.style }

/-- R103: the cut of a pass's safe value to a maximum that has been written. -/
def PassSettings.cutSafe (x : PassSettings) : PassSettings := { x with safe := min x.safe x.max }

/-- R103: the cut of the live and the staged manual setpoint to a new maximum. -/
def PassBinding.cut (m : Nat) (b : PassBinding) : PassBinding :=
  { b with setpoint := min b.setpoint m, staged := b.staged.map fun e => (e.1, min e.2 m) }

/-- The values are written into the live settings, and the passes whose maximum is written are cut (R102, R103). -/
def Apportioner.writeSettings (st : StagedSettings) (a : Apportioner) : Apportioner :=
  let live := a.live.write st
  { a with
    live := { live with passes := mapTable (fun p x => if st.passes[p].max.isSome then x.cutSafe else x) live.passes }
    bindings := mapTable (fun p b => if st.passes[p].max.isSome then b.cut live.passes[p].max else b) a.bindings }

/-- At a granted edge and at STOP: the staged settings become live and the staged record is emptied (R102). -/
def Apportioner.applyStaged (a : Apportioner) : Apportioner := { a.writeSettings a.staged with staged := .none }

/-! ### Bindings (R105, R106) -/

/-- R105: a staged binding becomes live with its setpoint and the pulse marker no. -/
def PassBinding.takeStaged (b : PassBinding) : PassBinding :=
  match b.staged with
  | some (k, v) => { live := k, setpoint := v, pulse := false, staged := none }
  | none => b

/-- R106: the binding of the interval an edge opens: a staged binding first, else the reversion of a used pulse. -/
def PassBinding.settle (b : PassBinding) : PassBinding :=
  match b.staged with
  | some _ => b.takeStaged
  | none => if b.live = .manualPulse ∧ b.pulse = true then { b with live := .scheduled, pulse := false } else b

/-- R106: the bindings are settled at the grant. -/
def Apportioner.settleBindings (a : Apportioner) : Apportioner :=
  { a with bindings := mapTable (fun _ b => b.settle) a.bindings }

/-- R105: at STOP every staged binding becomes live. -/
def Apportioner.takeBindings (a : Apportioner) : Apportioner :=
  { a with bindings := mapTable (fun _ b => b.takeStaged) a.bindings }

/-- R106, R110: the pulse marker of every MANUAL_PULSE pass becomes yes. -/
def Apportioner.markPulses (a : Apportioner) : Apportioner :=
  { a with bindings := mapTable (fun _ b => if b.live = .manualPulse then { b with pulse := true } else b) a.bindings }

/-! ### The inflow at a grant (R99, R100) -/

/-- R99: the age update. -/
def Apportioner.ageInflow (a : Apportioner) : Apportioner :=
  { a with age := if a.reportMarker then 0 else min (a.age + 1) Config.maxAge, reportMarker := false }

/-- R100: the held inflow that may be used: one is held and the age is below the stale limit. -/
def Apportioner.freshInflow (a : Apportioner) : Option Nat :=
  if a.age < a.live.staleLimit then a.heldInflow else none

/-- R100: Q_used. -/
def Apportioner.qUsed (a : Apportioner) : Nat := a.freshInflow.getD a.live.fallback

/-- R100: the fallback flag of this edge. -/
def Apportioner.chooseInflow (a : Apportioner) : Apportioner := { a with fallbackFlag := a.freshInflow.isNone }

/-- The apportioner's work at the grant (section 6.5): staged settings and cuts, bindings, age, Q_used. -/
def Apportioner.atGrant (a : Apportioner) : Apportioner := a.applyStaged.settleBindings.ageInflow.chooseInflow

/-! ### SET_SETTINGS (R59, R101 to R103, R173, R187) -/

/-- The maximum a safe value is clamped to: the request's own for the pass, else the live one (R103). -/
def safeLimit (live : FlowSettings) (items : List (Setting × Nat)) (p : PassId) : Nat :=
  (itemValue (.passMax p) items).getD live.passes[p].max

/-- R103: a safe value of the request is clamped. -/
def safeClamped (live : FlowSettings) (items : List (Setting × Nat)) : Bool :=
  (indices 6).any fun p => flowClamped (safeLimit live items p) (itemValue (.safe p) items)

/-- The flow settings of a request written into a staged record: each one named replaces its value (R102). -/
def stageItems (live : FlowSettings) (items : List (Setting × Nat)) (st : StagedSettings) : StagedSettings :=
  { residual := (itemValue .residual items).or st.residual
    fallback := (itemValue .fallback items).or st.fallback
    staleLimit := (itemValue .staleLimit items).or st.staleLimit
    passes := mapTable
      (fun p x =>
        { max := (itemValue (.passMax p) items).or x.max
          rampUp := (itemValue (.rampUp p) items).or x.rampUp
          rampDown := (itemValue (.rampDown p) items).or x.rampDown
          safe := ((itemValue (.safe p) items).map (min (safeLimit live items p))).or x.safe })
      st.passes
    ratings := mapTable (fun u x => (itemValue (.rating u) items).or x) st.ratings
    classMap := mapTable
      (fun c x => ((itemValue (.classMap c) items).map fun v => if v = 1 then (1 : Tier) else 0).or x) st.classMap
    style := ((itemValue .style items).map fun v => if v = 1 then HoldStyle.keep else .safe).or st.style }

/-- R187, check 6: an item is the interval length or the timebase. -/
def namesTimebase (items : List (Setting × Nat)) : Bool :=
  items.any fun e => e.1 = .length || e.1 = .timebase

/-- R59: the timebase settings at once. -/
def Timebase.setItems (items : List (Setting × Nat)) (t : Timebase) : Timebase :=
  { t with
    lengthMin := (itemValue .length items).getD t.lengthMin
    source := ((itemValue .timebase items).map fun v => if v = 1 then TimeSource.follow else .internal).getD t.source }

/-- R173: the scrubber enable at once; turned off, a waiting step claim is withdrawn. -/
def State.setScrubber (on : Bool) (s : State) : State :=
  if s.scrub.enable = on then s
  else { s with scrub := { s.scrub with enable := on }, arb := { s.arb with waitScrub := s.arb.waitScrub && on } }

/-- The scrubber item of a request, where it has one. -/
def State.setScrubberItem (items : List (Setting × Nat)) (s : State) : State :=
  match itemValue .scrubber items with
  | some v => s.setScrubber (v = 1)
  | none => s

/-- R102: the flow settings of a request, live at once in STANDBY and staged otherwise. -/
def State.setFlowItems (items : List (Setting × Nat)) (s : State) : State :=
  if s.time.opState = .standby then
    { s with flow := s.flow.writeSettings (stageItems s.flow.live items .none) }
  else { s with flow := { s.flow with staged := stageItems s.flow.live items s.flow.staged } }

/-- An accepted SET_SETTINGS. -/
def State.setItems (items : List (Setting × Nat)) (s : State) : State :=
  State.setFlowItems items (State.setScrubberItem items { s with time := s.time.setItems items })

/-- SET_SETTINGS: the checks of R187 in their order. -/
def setSettings (bytes : List Byte) (s : State) : State × Response :=
  match checkSettings bytes with
  | none => (s, .bare .badField)
  | some items =>
    if namesTimebase items = true ∧ s.time.opState ≠ .standby then (s, .bare .wrongMode)
    else (s.setItems items, .bare (okStatus (safeClamped s.flow.live items)))

/-- SET_SETTINGS (R187). -/
def execSetSettings (iss : Issuer) (bytes : List Byte) (s : State) : Host.Outcome State Fault Refusal :=
  runRequest (.setSettings iss bytes) (setSettings bytes) s

/-! ### SET_BINDING (R105) -/

/-- The binding and setpoint are live at once in STANDBY and staged otherwise. -/
def PassBinding.given (standby : Bool) (k : Binding) (v : Nat) (b : PassBinding) : PassBinding :=
  if standby then { b with live := k, setpoint := v, pulse := false } else { b with staged := some (k, v) }

/-- SET_BINDING (R105). -/
def setBinding (f : BindingFields) (s : State) : State × Response :=
  match index? 6 f.pass, f.binding with
  | some p, some k =>
    let limit := s.flow.live.passes[p].max
    let b := PassBinding.given (decide (s.time.opState = .standby)) k (min f.setpoint.toNat limit) s.flow.bindings[p]
    ({ s with flow := { s.flow with bindings := s.flow.bindings.set p b } },
      .bare (okStatus (decide (limit < f.setpoint.toNat))))
  | _, _ => (s, .bare .badField)

/-- SET_BINDING (R105). -/
def execSetBinding (iss : Issuer) (b : Body BindingFields) (s : State) : Host.Outcome State Fault Refusal :=
  runRequest (.setBinding iss b) (withFields b setBinding) s

/-! ### REPORT_INFLOW (R98) -/

/-- REPORT_INFLOW (R98). -/
def reportInflow (v : BitVec 16) (s : State) : State × Response :=
  ({ s with flow := { s.flow with heldInflow := some (min v.toNat Config.maxInflow), reportMarker := true } },
    .bare (okStatus (decide (Config.maxInflow < v.toNat))))

/-- REPORT_INFLOW (R98). -/
def execReportInflow (iss : Issuer) (b : Body (BitVec 16)) (s : State) : Host.Outcome State Fault Refusal :=
  runRequest (.reportInflow iss b) (withFields b reportInflow) s

end Sys2Proof.Machine
end

