-- ==== Sys2Proof/Machine/Apportion.lean ====
section
/-! DEFINITION. The apportionment of an edge, stage by stage (R109 to R121), the interval record (R122) and
READ_INTERVAL (R123). -/

namespace Sys2Proof.Machine

/-- The sum of a figure over the six passes. -/
def passSum (f : PassId → Nat) : Nat := ((indices 6).map f).sum

/-! ### Stages 1 to 5: the targets (R107, R110 to R114) -/

/-- R107: the target of a pass that is forced, MANUAL or MANUAL_PULSE; 0 for one that is not. -/
def fixedTarget (safe : Nat) (forced : Bool) (b : PassBinding) : Nat :=
  if forced then safe
  else
    match b.live with
    | .manual => b.setpoint
    | .manualPulse => b.setpoint
    | .scheduled => 0
    | .idle => 0

/-- R107: the pass is SCHEDULED and not forced. -/
def isServed (forced : Bool) (b : PassBinding) : Bool := decide (b.live = .scheduled) && !forced

/-- R111: R'(p,0) and R'(p,1) from the requests and the pass maximum. -/
def capped (m r0 r1 : Nat) : Nat × Nat := (min r0 m, min r1 (m - min r0 m))

/-- R112, R113: the grant of a pass in a tier of total request `total` and budget `w`. -/
def grant (w total c : Nat) : Nat := if total ≤ w then c else c * w / total

/-- What stages 1 to 5 find of one pass. -/
structure PassShare where
  r0 : Nat
  r1 : Nat
  c0 : Nat
  c1 : Nat
  fixed : Nat
  served : Bool
deriving DecidableEq, Repr

/-- Stages 1 and 2 at a pass (R110, R111). -/
def passShare (d : DemandSet) (a : Apportioner) (p : PassId) : PassShare :=
  let served := isServed d.forced[p] a.bindings[p]
  let r0 := if served then d.requests0[p] else 0
  let r1 := if served then d.requests1[p] else 0
  let c := capped a.live.passes[p].max r0 r1
  { r0 := r0, r1 := r1, c0 := c.1, c1 := c.2,
    fixed := fixedTarget a.live.passes[p].safe d.forced[p] a.bindings[p], served := served }

/-- The budget figures of an edge (R110, R112, R113). -/
structure Budget where
  m : Nat
  w0 : Nat
  d0 : Nat
  g0 : Nat
  w1 : Nat
  d1 : Nat
  g1 : Nat
  residue : Nat
deriving DecidableEq, Repr

/-- Stages 1, 3 and 4. -/
def budgetOf (qUsed : Nat) (share : PassId → PassShare) : Budget :=
  let m := passSum fun p => (share p).fixed
  let w0 := qUsed - m
  let d0 := passSum fun p => (share p).c0
  let g0 := passSum fun p => grant w0 d0 (share p).c0
  let w1 := w0 - g0
  let d1 := passSum fun p => (share p).c1
  let g1 := passSum fun p => grant w1 d1 (share p).c1
  { m := m, w0 := w0, d0 := d0, g0 := g0, w1 := w1, d1 := d1, g1 := g1,
    residue := if d1 ≤ w1 then 0 else w1 - g1 }

/-! ### Stages 7 and 8: the delivered setpoints (R117, R118) -/

/-- R117: one ramp step from `prev` toward `target`. -/
def ramp (up down prev target : Nat) : Nat :=
  if prev < target then (if up = 0 then target else min target (prev + up))
  else if target < prev then (if down = 0 then target else max target (prev - down))
  else prev

/-- R117, R118: the new delivered setpoint of a pass. -/
def newDelivered (k : EdgeKind) (style : HoldStyle) (forced : Bool) (x : PassSettings) (prev target : Nat) : Nat :=
  if forced then x.safe
  else if k = .holdEntry ∧ style = .safe then x.safe
  else ramp x.rampUp x.rampDown (min (if k = .start then x.safe else prev) x.max) target

/-! ### Stage 10: the balance (R120, R121) -/

/-- T_ceil, Tt, S and the deficit. -/
structure Balance where
  tCeil : Nat
  tt : Nat
  spill : Nat
  deficit : Nat
deriving DecidableEq, Repr

/-- R120 where D is at most Q_used, R121 where it is above. T_ceil is 0 where Q_used is below Q_res (R120); with D above
Q_used and Q_used not below Q_res no rule states it, and it is a free value (DESIGN CHOICE, notes/assumptions/16.md). -/
def balance (qUsed d residual rCap : Nat) : Balance :=
  if d ≤ qUsed then
    let ceil := qUsed - max d residual
    { tCeil := ceil, tt := min ceil rCap, spill := qUsed - d - min ceil rCap, deficit := 0 }
  else
    { tCeil := if qUsed < residual then 0 else Config.deficitCeiling qUsed d residual
      tt := 0
      spill := 0
      deficit := d - qUsed }

/-! ### The whole computation -/

/-- The six passes of the record (R114, R117, R122). -/
def passFigures (d : DemandSet) (a : Apportioner) (b : Budget) (p : PassId) : PassFigures :=
  let x := passShare d a p
  let g0 := grant b.w0 b.d0 x.c0
  let g1 := grant b.w1 b.d1 x.c1
  let target := if x.served then g0 + g1 else x.fixed
  { binding := a.bindings[p].live, forced := d.forced[p], r0 := x.r0, r1 := x.r1, c0 := x.c0, c1 := x.c1, g0 := g0,
    g1 := g1, target := target,
    delivered := newDelivered d.kind a.live.style d.forced[p] a.live.passes[p] a.delivered[p] target }

/-- R110 to R122: the interval record of an edge, from its demand set and unit order set and the apportioner as the
grant left it. Each unit's availability is copied with its order and slot (DEDUCED from R135, notes/assumptions/17.md). -/
def computeRecord (d : DemandSet) (u : UnitOrderSet) (a : Apportioner) : IntervalRecord :=
  let q := a.qUsed
  let b := budgetOf q (passShare d a)
  let figures := Vector.ofFn (passFigures d a b)
  let total := passSum fun p => figures[p].delivered
  let bal := balance q total a.live.residual u.rCap
  { interval := d.interval
    kind := d.kind
    styleApplied := if d.kind = .holdEntry then some a.live.style else none
    qUsed := q
    age := a.age
    fallbackUsed := a.fallbackFlag
    m := b.m, w0 := b.w0, d0 := b.d0, g0 := b.g0, w1 := b.w1, d1 := b.d1, g1 := b.g1, residue := b.residue
    passes := figures
    d := total
    rCap := u.rCap
    tCeil := bal.tCeil
    tt := bal.tt
    spill := bal.spill
    deficit := bal.deficit
    units := u.units
    lowRiver := decide (q < a.live.residual)
    deficitRaised := decide (q < total)
    shortfall0 := decide (b.w0 < b.d0)
    shortfall1 := decide (b.w1 < b.d1)
    inflowStale := a.fallbackFlag }

/-- R109, R110, R116, R122: the record replaces the one before, its delivered setpoints are held and the pulse markers
are set. -/
def Apportioner.take (r : IntervalRecord) (a : Apportioner) : Apportioner :=
  { a.markPulses with delivered := mapTable (fun _ x => x.delivered) r.passes, record := some r }

/-- The causes raised at the edge (R100, R109). -/
def State.raiseEdgeCauses (r : IntervalRecord) (s : State) : State :=
  ((((s.setCauseIf r.inflowStale .inflowStale).setCauseIf r.lowRiver .lowRiver).setCauseIf r.deficitRaised
    .deficit).setCauseIf r.shortfall0 .shortfall0).setCauseIf r.shortfall1 .shortfall1

/-- The apportioner's computation at an edge (R109). -/
def State.apportion (d : DemandSet) (u : UnitOrderSet) (s : State) : State :=
  let r := computeRecord d u s.flow
  State.raiseEdgeCauses r { s with flow := s.flow.take r }

/-! ### The served figures (R93, R115) -/

/-- R115: the served figure of a contribution. -/
def servedFigure (d : DemandSet) (r : IntervalRecord) (c : Contribution) : Nat :=
  if c.tier = 0 then c.flow * r.passes[c.pass].g0 / d.requests0[c.pass]
  else c.flow * r.passes[c.pass].g1 / d.requests1[c.pass]

/-- R93: what the write-back writes into a slot's served_flow, where it writes. -/
def writtenFigure (d : DemandSet) (r : IntervalRecord) (i : SlotId) : Option Nat :=
  match d.contributions.find? fun c => c.slot = i with
  | some c => some (servedFigure d r c)
  | none => if i ∈ d.unserved then some 0 else none

/-- R93: the write-back at one slot; the body is written with its new check code and no read is made (R167). -/
def Slot.writeServed (v : Option Nat) (sl : Slot) : Slot :=
  match v, sl.record with
  | some n, some r =>
    { sl with record := some { r with body := { r.body with servedFlow := some n }, check := .clean } }
  | _, _ => sl

/-- The served_flow write-back that ends the edge claim (R93). -/
def State.writeBack (d : DemandSet) (r : IntervalRecord) (s : State) : State :=
  { s with slots := mapTable (fun i sl => sl.writeServed (writtenFigure d r i)) s.slots }

/-! ### READ_INTERVAL -/

/-- READ_INTERVAL (R123). -/
def readInterval (_ : Unit) (s : State) : State × Response :=
  match s.flow.record with
  | some r => (s, { status := .ok, body := .interval r })
  | none => (s, .bare .noSuch)

/-- READ_INTERVAL (R123). -/
def execReadInterval (iss : Issuer) (b : Body Unit) (s : State) : Host.Outcome State Fault Refusal :=
  runRequest (.readInterval iss b) (withFields b readInterval) s

end Sys2Proof.Machine
end

