-- ==== Sys2Proof/Machine/Table.lean ====
section
/-! DEFINITION. OPEN_WINDOW, AMEND_WINDOW, RETIRE_WINDOW and PURGE (chapter 2). -/

namespace Sys2Proof.Machine

/-! ### OPEN_WINDOW -/

/-- R28: the lowest-numbered FREE slot. -/
def State.lowestFree (s : State) : Option SlotId := (indices 64).find? fun i => s.slots[i].record.isNone

/-- R29: the chosen slot is written whole and a non-zero tag is entered in the map. -/
def State.openSlot (i : SlotId) (iss : Issuer) (tag : BitVec 16) (t : Target) (b : RecordBody) (s : State) : State :=
  { s with
    slots := s.slots.set i
      { s.slots[i] with
        record := some { life := .staged, owner := iss, tag := tag, target := t, retirePending := false, body := b,
                         check := .clean, staged := none } }
    tagMap := if tag = 0 then s.tagMap else (tag, i) :: s.tagMap }

/-- OPEN_WINDOW: the checks of R27 in their order, then R28 to R31. -/
def openWindow (iss : Issuer) (f : OpenFields) (s : State) : State × Response :=
  match checkOpen f with
  | none => (s, .bare .badField)
  | some (t, b) =>
    if f.cls ≤ 1 ∧ iss ≠ .authority then (s, .bare .notPermitted)
    else if f.tag ≠ 0 ∧ (lookupTag f.tag s.tagMap).isSome then (s, .bare .dupTag)
    else
      match s.lowestFree with
      | none => (s, .bare .tableFull)
      | some i =>
        let limit := s.flowLimit t
        let body := { b with requestedFlow := b.requestedFlow.map (min limit) }
        (s.openSlot i iss f.tag t body,
          { status := okStatus (flowClamped limit b.requestedFlow),
            body := .handle { slot := i, generation := s.slots[i].generation } })

/-- OPEN_WINDOW (R25 to R31). -/
def execOpenWindow (iss : Issuer) (b : Body OpenFields) (s : State) : Host.Outcome State Fault Refusal :=
  runRequest (.openWindow iss b) (withFields b (openWindow iss)) s

/-! ### AMEND_WINDOW -/

/-- The amendment with its requested_flow clamped (R36, R37). -/
def Amendment.clamped (limit : Nat) (a : Amendment) : Amendment :=
  { a with requestedFlow := a.requestedFlow.map (min limit) }

/-- The guard after a guard change (R12). -/
def changeGuard : Option GuardChange → Option Guard → Option Guard
  | none, g => g
  | some (.given g), _ => some g
  | some .remove, _ => none

/-- The present fields are written into the body's settings (R36, R39, R82); no runtime field is loaded. -/
def RecordBody.write (a : Amendment) (b : RecordBody) : RecordBody :=
  { b with
    cls := a.cls.getD b.cls
    requestedFlow := a.requestedFlow.or b.requestedFlow
    length := a.length.getD b.length
    repeats := a.repeats.getD b.repeats
    guard := changeGuard a.guard b.guard
    autoRelease := a.autoRelease.getD b.autoRelease
    pauseCount := a.pauseCount.or b.pauseCount
    unloadCount := a.unloadCount.or b.unloadCount
    startOffset := a.startOffset.getD b.startOffset }

/-- R37: each named field replaces the staged value; the others keep theirs. -/
def Amendment.mergeInto (new old : Amendment) : Amendment :=
  { cls := new.cls.or old.cls
    requestedFlow := new.requestedFlow.or old.requestedFlow
    length := new.length.or old.length
    repeats := new.repeats.or old.repeats
    guard := new.guard.or old.guard
    autoRelease := new.autoRelease.or old.autoRelease
    pauseCount := new.pauseCount.or old.pauseCount
    unloadCount := new.unloadCount.or old.unloadCount
    startOffset := new.startOffset.or old.startOffset }

/-- R34: start_offset is fixed once the record has started. -/
def startOffsetFixed : Life → Bool
  | .active => true
  | .suspended => true
  | .ended => true
  | _ => false

/-- R36: an accepted amendment of a STAGED record, of which `r` is the record. -/
def amendStaged (h : Handle) (r : Record) (a : Amendment) (st : Status) (s : State) : State × Response :=
  let x := r.readBody
  let record := if x.quarantined then x.record else { x.record with body := x.record.body.write a }
  let s := (s.applyEffect h.slot (ReadResult.effect h.generation { x with record := record })).driveAlert
  if x.quarantined then (s, .bare .quarantined) else (s, { status := st, body := .amended h .applied })

/-- R37: an accepted amendment of a live record is held in the slot's staged amendment. A merge reads the amendment
already held; one that cannot be corrected is lost (R171). -/
def amendLive (h : Handle) (r : Record) (a : Amendment) (st : Status) (s : State) : State × Response :=
  let x := r.readStaged
  let change :=
    match x.record.staged with
    | some old => a.mergeInto old.change
    | none => a
  let record := { x.record with staged := some { change := change, check := .clean } }
  let s := (s.applyEffect h.slot (ReadResult.effect h.generation { x with record := record })).driveAlert
  (s, { status := st, body := .amended h .held })

/-- AMEND_WINDOW: the checks of R33 in their order, then R36 or R37. -/
def amendWindow (iss : Issuer) (f : AmendFields) (s : State) : State × Response :=
  match checkHandle f.handle with
  | none => (s, .bare .badField)
  | some h =>
    match s.recordOf h with
    | none => (s, .bare .staleHandle)
    | some r =>
      if !mayChange iss r.owner || (namesTopClass f && decide (iss ≠ .authority)) then (s, .bare .notPermitted)
      else if r.retirePending then (s, .bare .retiring)
      else if r.life = .quarantined then (s, .bare .quarantined)
      else if !f.immutable.isEmpty || (f.startOffset.isSome && startOffsetFixed r.life) then (s, .bare .immutable)
      else
        match checkAmend r.target f with
        | none => (s, .bare .badField)
        | some a =>
          let limit := s.flowLimit r.target
          let st := okStatus (flowClamped limit a.requestedFlow)
          if r.life = .staged then amendStaged h r (a.clamped limit) st s else amendLive h r (a.clamped limit) st s

/-- AMEND_WINDOW (R32 to R40). -/
def execAmendWindow (iss : Issuer) (b : Body AmendFields) (s : State) : Host.Outcome State Fault Refusal :=
  runRequest (.amendWindow iss b) (withFields b (amendWindow iss)) s

/-! ### RETIRE_WINDOW -/

/-- R41: a retirement of a STAGED or ENDED record acts at once. -/
def retiresAtOnce : Life → Bool
  | .staged => true
  | .ended => true
  | _ => false

/-- RETIRE_WINDOW: the checks of R41 in their order, then R42 or R43. -/
def retireWindow (iss : Issuer) (raw : RawHandle) (s : State) : State × Response :=
  match checkHandle raw with
  | none => (s, .bare .badField)
  | some h =>
    match s.recordOf h with
    | none => (s, .bare .staleHandle)
    | some r =>
      if !mayChange iss r.owner then (s, .bare .notPermitted)
      else if r.retirePending then (s, .bare .retiring)
      else if retiresAtOnce r.life then
        (s.applyEffect h.slot (quietEffect s.slots[h.slot].freed), { status := .ok, body := .retired h .freed })
      else
        (s.applyEffect h.slot
            (quietEffect { s.slots[h.slot] with record := some { r with retirePending := true } }),
          { status := .ok, body := .retired h .atEdge })

/-- RETIRE_WINDOW (R41 to R44). -/
def execRetireWindow (iss : Issuer) (b : Body RawHandle) (s : State) : Host.Outcome State Fault Refusal :=
  runRequest (.retireWindow iss b) (withFields b (retireWindow iss)) s

/-! ### PURGE -/

/-- PURGE: every slot becomes FREE and the tag map is emptied, in STANDBY alone (R23, R46). -/
def purge (_ : Unit) (s : State) : State × Response :=
  if s.time.opState = .standby then
    ({ s with slots := mapTable (fun _ sl => sl.freed) s.slots, tagMap := [] }, .bare .ok)
  else (s, .bare .wrongMode)

/-- PURGE (R46). -/
def execPurge (iss : Issuer) (b : Body Unit) (s : State) : Host.Outcome State Fault Refusal :=
  runRequest (.purge iss b) (withFields b purge) s

end Sys2Proof.Machine
end

