-- ==== Sys2Proof/Machine/Engine.lean ====
section
/-! DEFINITION. The schedule engine (chapter 5): what the edge pass does to one slot, the walk over the 64 slots, and the
demand set. The pass takes each slot on its own: no step of R80 at one slot reads another. -/

namespace Sys2Proof.Machine

/-- What the pass looks at besides the slot: the latched conditions (R78) and which lines match in the snapshot
(R79). -/
structure PassView where
  conditions : Vector Bool 8
  lines : Vector Bool 8
deriving DecidableEq, Repr

/-- What steps 3 to 9 leave of a record: the record, or a slot to be freed (R91), and whether a start was nullified
(R87). -/
structure Advance where
  record : Option Record
  nullified : Bool
deriving DecidableEq, Repr

/-- The record stays in its slot. -/
def Advance.keep (r : Record) : Advance := { record := some r, nullified := false }

/-! ### The pieces of the steps -/

/-- R8: the guard is met; a record without one behaves as if it were always met. -/
def guardMet (conditions : Vector Bool 8) : Option Guard → Bool
  | none => true
  | some g => decide (conditions[g.condition] = g.polarity)

/-- R9: the span of a record. -/
def spanOf (t : Target) (b : RecordBody) : Nat :=
  match t with
  | .pass _ => b.length
  | _ => b.unloadCount.getD 0 + b.length

/-- R88, R89: a record of non-zero length whose elapsed count has reached its span. -/
def spanReached (r : Record) : Bool := decide (0 < r.body.length) && decide (spanOf r.target r.body ≤ r.body.elapsed)

/-- A record whose body a step changes. -/
def Record.withBody (r : Record) (b : RecordBody) : Record := { r with body := b }

/-- R82: the present fields are written, runs_left is loaded from a staged repeat unless the record is ENDED, and lead
from a staged start_offset. -/
def applyAmendment (a : Amendment) (r : Record) : Record :=
  let b := r.body.write a
  r.withBody
    { b with
      runsLeft := if r.life = .ended then b.runsLeft else a.repeats.getD b.runsLeft
      lead := a.startOffset.getD b.lead }

/-- Step 3 (R82): a staged amendment that has passed its read is applied and ceases to exist. -/
def stepAmend (r : Record) : Record :=
  match r.staged with
  | some a => { applyAmendment a.change r with staged := none }
  | none => r

/-- trigger_seen becomes no, where the record has one. -/
def clearSeen : Option Bool → Option Bool := Option.map fun _ => false

/-- Step 9 (R91): re-armed while a run is left; else freed or ENDED. -/
def stepEnd (r : Record) : Option Record :=
  let b := r.body
  if 0 < b.runsLeft then
    let left := if b.runsLeft = Config.unlimited then b.runsLeft else b.runsLeft - 1
    match b.startMode with
    | .trigger =>
      some { r with life := .armed,
                    body := { b with elapsed := 0, runsLeft := left, lead := 0, triggerSeen := clearSeen b.triggerSeen } }
    | .immediate =>
      some { r with life := .pending, body := { b with elapsed := 0, runsLeft := left, lead := b.startOffset } }
  else if b.autoRelease then none
  else some { r with life := .ended, body := { b with lead := 0, triggerSeen := clearSeen b.triggerSeen } }

/-- R87: a record whose lead is 0 starts. -/
def stepStart (v : PassView) (r : Record) : Advance :=
  let begun := { r.body with elapsed := 0 }
  match r.body.guard with
  | none => .keep { r with life := .active, body := begun }
  | some g =>
    if guardMet v.conditions (some g) then .keep { r with life := .active, body := begun }
    else
      match g.mode with
      | .wait => .keep { r with life := .suspended, body := begun }
      | .skip => { record := stepEnd r, nullified := true }

/-- Step 6 (R86): the lead is counted for a record that was PENDING when the pass began, and the record starts when it
is 0. -/
def stepPending (v : PassView) (wasPending : Bool) (r : Record) : Advance :=
  let lead := if wasPending then r.body.lead - 1 else r.body.lead
  let r := { r with life := .pending, body := { r.body with lead := lead } }
  if lead = 0 then stepStart v r else .keep r

/-- Step 4 (R83): leaving STAGED. -/
def stepStaged (v : PassView) (r : Record) : Advance :=
  let b := { r.body with runsLeft := r.body.repeats }
  match b.startMode with
  | .trigger =>
    .keep { r with life := .armed, body := { b with lead := 0, triggerSeen := clearSeen b.triggerSeen } }
  | .immediate => stepPending v false (r.withBody { b with lead := b.startOffset })

/-- R84: the record is triggered by its trigger_seen or by its line's match in the snapshot. -/
def triggered (v : PassView) (b : RecordBody) : Bool :=
  decide (b.triggerSeen = some true) ||
    match b.triggerLine with
    | some m => v.lines[m]
    | none => false

/-- Step 5 (R84): a record that was ARMED when the pass began. -/
def stepArmed (v : PassView) (r : Record) : Advance :=
  if triggered v r.body then
    stepPending v false
      (r.withBody { r.body with lead := r.body.startOffset, triggerSeen := clearSeen r.body.triggerSeen })
  else .keep r

/-- Step 7 (R88): a record that was ACTIVE when the pass began counts the interval this edge closes. -/
def stepActive (v : PassView) (r : Record) : Advance :=
  let r := r.withBody { r.body with elapsed := min (r.body.elapsed + 1) Config.maxElapsed }
  if spanReached r then { record := stepEnd r, nullified := false }
  else if guardMet v.conditions r.body.guard then .keep r
  else .keep { r with life := .suspended }

/-- Step 8 (R89): a record that was SUSPENDED when the pass began. -/
def stepSuspended (v : PassView) (r : Record) : Advance :=
  if spanReached r then { record := stepEnd r, nullified := false }
  else if guardMet v.conditions r.body.guard then .keep { r with life := .active }
  else .keep r

/-- Steps 4 to 9 for a record as step 3 leaves it, by the state it had when the pass began (R80). -/
def advance (v : PassView) (r : Record) : Advance :=
  match r.life with
  | .staged => stepStaged v r
  | .armed => stepArmed v r
  | .pending => stepPending v true r
  | .active => stepActive v r
  | .suspended => stepSuspended v r
  | .ended => .keep r
  | .quarantined => .keep r

/-! ### The walk -/

/-- The edge pass at one slot (R80): retirement, body read, staged amendment, and the steps after them. -/
def passSlot (v : PassView) (sl : Slot) : SlotEffect :=
  match sl.record with
  | none => quietEffect sl
  | some r =>
    if r.retirePending then quietEffect sl.freed
    else if r.life = .quarantined then quietEffect sl
    else
      let x := r.readWhole
      if x.quarantined then x.effect sl.generation
      else
        let a := advance v (stepAmend x.record)
        { slot :=
            match a.record with
            | some r' => { generation := sl.generation, record := some r' }
            | none => sl.freed
          fixes := x.fixes, quarantined := false, stageLost := x.stageLost, nullified := a.nullified }

/-- The walk over slots 0 to 63 (R80): every slot takes its pass, and what the passes report is taken up in slot
order. -/
def State.walk (v : PassView) (s : State) : State :=
  (indices 64).foldl (fun acc i => acc.noteEffect i (passSlot v s.slots[i]))
    { s with slots := mapTable (fun _ sl => (passSlot v sl).slot) s.slots }

/-! ### The demand set (R92 to R95) -/

/-- The slot's record, where it is of the given state. -/
def Slot.recordIn (sl : Slot) (l : Life) : Option Record := sl.record.filter fun r => r.life = l

/-- R94: the passes that a QUARANTINED PASS_FLOW record targets. -/
def forcedSet (slots : Vector Slot 64) : Vector Bool 6 :=
  Vector.ofFn fun p => slots.toList.any fun sl =>
    match sl.recordIn .quarantined with
    | some r => decide (r.target = .pass p)
    | none => false

/-- R20, R92: the contribution of a slot, where it makes one: an ACTIVE PASS_FLOW record on a SCHEDULED pass that is
not forced. -/
def contributionOf (bindings : Vector PassBinding 6) (forced : Vector Bool 6) (classMap : Vector Tier 8) (i : SlotId)
    (sl : Slot) : Option Contribution :=
  match sl.recordIn .active with
  | none => none
  | some r =>
    match r.target with
    | .pass p =>
      if bindings[p].live = .scheduled ∧ forced[p] = false then
        some { slot := i, pass := p, tier := classMap[r.body.cls], flow := r.body.requestedFlow.getD 0 }
      else none
    | _ => none

/-- R92: a PASS_FLOW record that is not QUARANTINED. -/
def isLiveFlow (sl : Slot) : Bool :=
  match sl.record with
  | none => false
  | some r => decide (r.target.kind = .passFlow) && decide (r.life ≠ .quarantined)

/-- R95: the pause claim of a slot, where it presents one. -/
def pauseClaimOf (i : SlotId) (sl : Slot) : Option PauseClaim :=
  match sl.recordIn .active with
  | none => none
  | some r =>
    match r.target with
    | .pass _ => none
    | .fixed u => some { slot := i, target := .fixed u, count := 1, unloadCount := r.body.unloadCount.getD 0 }
    | .any =>
      some { slot := i, target := .any, count := r.body.pauseCount.getD 0, unloadCount := r.body.unloadCount.getD 0 }

/-- The slot holds a UNIT_PAUSE record. -/
def holdsPause (sl : Slot) : Bool :=
  match sl.record with
  | none => false
  | some r => decide (r.target.kind = .unitPause)

/-- R95: the held list. -/
def isHeldPause (sl : Slot) : Bool := holdsPause sl && (sl.recordIn .quarantined).isSome

/-- R95: a slot that held a UNIT_PAUSE record when the walk began, and now is FREE or holds a record in a state other
than ACTIVE and QUARANTINED. -/
def isReleased (before after : Slot) : Bool :=
  holdsPause before && !(after.recordIn .active).isSome && !(after.recordIn .quarantined).isSome

/-- R92: the sum of the requests of one pass and tier. -/
def tierRequest (cs : List Contribution) (p : PassId) (t : Tier) : Nat :=
  ((cs.filter fun c => c.pass = p ∧ c.tier = t).map (·.flow)).sum

/-- The demand set (R92), from the slots as the walk found them and as it left them. -/
def buildDemand (interval : BitVec 32) (k : EdgeKind) (bindings : Vector PassBinding 6) (classMap : Vector Tier 8)
    (before after : Vector Slot 64) : DemandSet :=
  let forced := forcedSet after
  let cs := (indices 64).filterMap fun i => contributionOf bindings forced classMap i after[i]
  { interval := interval
    kind := k
    contributions := cs
    unserved := (indices 64).filter fun i =>
      isLiveFlow after[i] && (contributionOf bindings forced classMap i after[i]).isNone
    requests0 := Vector.ofFn fun p => tierRequest cs p 0
    requests1 := Vector.ofFn fun p => tierRequest cs p 1
    forced := forced
    claims := (indices 64).filterMap fun i => pauseClaimOf i after[i]
    held := (indices 64).filter fun i => isHeldPause after[i]
    release := (indices 64).filter fun i => isReleased before[i] after[i] }

end Sys2Proof.Machine
end

