-- ==== Sys2Proof/Machine/Pause.lean ====
section
/-! DEFINITION. The pause block (chapter 7): its work at an edge in the seven steps of R129, the emptying at STOP (R141),
and REPORT_UNITS, LOAD_ROTATION and READ_ROTATION. -/

namespace Sys2Proof.Machine

/-- The 64 assignment lists (R127). -/
abbrev Lists := Vector (List Assignment) 64

/-- The lists change; the lines of every unit that has left every list go low at that moment (R139). -/
def PauseBlock.withLists (lists : Lists) (p : PauseBlock) : PauseBlock :=
  { p with
    lists := lists
    lines := dropLines (fun u => assigned p.lists u && !assigned lists u) p.lines }

/-! ### Step 1: the staged unit report (R126) -/

/-- A staged report becomes the availability; assigned units now OUT_OF_SERVICE leave their lists. -/
def PauseBlock.applyReport (p : PauseBlock) : PauseBlock :=
  match p.report with
  | none => p
  | some av =>
    PauseBlock.withLists (mapTable (fun _ l => l.filter fun a => av[a.unit] = .available) p.lists)
      { p with availability := av, report := none }

/-! ### Step 2: the pending rotation load (R137) -/

/-- The shadow table becomes live and the pointer 0. -/
def PauseBlock.applyLoad (p : PauseBlock) : PauseBlock :=
  if p.loadPending then { p with live := p.shadow, pointer := 0, loadPending := false } else p

/-! ### Step 3: releases (R130) -/

/-- The claim a slot presents. -/
def claimOf (claims : List PauseClaim) (i : SlotId) : Option PauseClaim := claims.find? fun c => c.slot = i

/-- The list of a slot after step 3: emptied by the release list, or cut to the claim's count from the newest end. -/
def keptList (release : List SlotId) (claims : List PauseClaim) (i : SlotId) (l : List Assignment) : List Assignment :=
  if i ∈ release then []
  else
    match claimOf claims i with
    | some c => l.take c.count
    | none => l

/-- Both kinds of release. -/
def PauseBlock.release (d : DemandSet) (p : PauseBlock) : PauseBlock :=
  p.withLists (mapTable (keptList d.release d.claims) p.lists)

/-! ### Step 4: the phase advance (R131) -/

/-- One interval of a unit's service. -/
def Assignment.advance (a : Assignment) : Assignment :=
  match a.phase with
  | .unload =>
    if a.unloadLeft ≤ 1 then { a with phase := .stop, unloadLeft := 0 } else { a with unloadLeft := a.unloadLeft - 1 }
  | .stop => a

/-- Every unit still on a list. -/
def PauseBlock.advancePhases (p : PauseBlock) : PauseBlock :=
  { p with lists := mapTable (fun _ l => l.map Assignment.advance) p.lists }

/-! ### Step 5: the claim service (R128, R132, R133) -/

/-- R128: a unit newly assigned. -/
def newAssignment (u : UnitId) (unloadCount : Nat) : Assignment :=
  { unit := u, phase := if unloadCount = 0 then .stop else .unload, unloadLeft := unloadCount }

/-- The unit goes to the end of the claim's list. -/
def assign (c : PauseClaim) (u : UnitId) (lists : Lists) : Lists :=
  lists.set c.slot (lists[c.slot] ++ [newAssignment u c.unloadCount])

/-- The unit is AVAILABLE and unassigned at this moment. -/
def assignable (av : Vector Availability 12) (lists : Lists) (u : UnitId) : Bool :=
  decide (av[u] = .available) && !assigned lists u

/-- The deficit of a claim (R132). -/
def deficit (lists : Lists) (c : PauseClaim) : Nat := c.count - lists[c.slot].length

/-- R132: a FIXED claim takes its unit where it is assignable. -/
def serveFixed (av : Vector Availability 12) (lists : Lists) (c : PauseClaim) : Lists :=
  match c.target with
  | .fixed u => if 0 < deficit lists c ∧ assignable av lists u = true then assign c u lists else lists
  | _ => lists

/-- R133: a rotation walk from the pointer, upward modulo 32, over at most 32 phases: the phase and unit it chooses. -/
def walkFrom (av : Vector Availability 12) (live : Vector (Option UnitId) 32) (lists : Lists) (pointer : PhaseId) :
    Option (PhaseId × UnitId) :=
  (indices 32).findSome? fun k =>
    match live[pointer + k] with
    | some u => if assignable av lists u then some (pointer + k, u) else none
    | none => none

/-- The service of the ANY claims as it goes: a failed walk ends all walks of the edge (R133). -/
structure Service where
  lists : Lists
  pointer : PhaseId
  failed : Bool
deriving DecidableEq, Repr

/-- One rotation walk for each of `n` units of a claim's deficit. -/
def serveWalks (av : Vector Availability 12) (live : Vector (Option UnitId) 32) (c : PauseClaim) :
    Nat → Service → Service
  | 0, x => x
  | n + 1, x =>
    if x.failed then x
    else
      match walkFrom av live x.lists x.pointer with
      | none => { x with failed := true }
      | some (ph, u) =>
        serveWalks av live c n { lists := assign c u x.lists, pointer := ph + 1, failed := false }

/-- R133: an ANY claim. -/
def serveAny (av : Vector Availability 12) (live : Vector (Option UnitId) 32) (x : Service) (c : PauseClaim) : Service :=
  match c.target with
  | .any => serveWalks av live c (deficit x.lists c) x
  | _ => x

/-- The FIXED claims in slot order, then the ANY claims in slot order. -/
def PauseBlock.serve (claims : List PauseClaim) (p : PauseBlock) : PauseBlock :=
  let fixed := claims.foldl (serveFixed p.availability) p.lists
  let x := claims.foldl (serveAny p.availability p.live) { lists := fixed, pointer := p.pointer, failed := false }
  { p with lists := x.lists, pointer := x.pointer }

/-! ### Steps 6 and 7 (R134, R135) -/

/-- R134: a deficit is left. -/
def PauseBlock.short (claims : List PauseClaim) (p : PauseBlock) : Bool :=
  claims.any fun c => decide (0 < deficit p.lists c)

/-- R135: the order of each unit. -/
def unitOrders (av : Vector Availability 12) (lists : Lists) : Vector UnitOrder 12 :=
  Vector.ofFn fun u =>
    match unitOf lists u with
    | none => { availability := av[u], order := none, slot := none }
    | some (i, a) => { availability := av[u], order := some a.phase, slot := some i }

/-- R119: what a unit adds to R_cap. -/
def capacityOf (rating : Nat) (o : UnitOrder) : Nat :=
  match o.availability, o.order with
  | .available, none => rating
  | .available, some .unload => rating / 2
  | .available, some .stop => 0
  | .outOfService, _ => 0

/-- R119: R_cap. -/
def runningCapacity (ratings : Vector Nat 12) (orders : Vector UnitOrder 12) : Nat :=
  ((indices 12).map fun u => capacityOf ratings[u] orders[u]).sum

/-- R135: the unit order set. -/
def PauseBlock.orderSet (ratings : Vector Nat 12) (p : PauseBlock) : UnitOrderSet :=
  let orders := unitOrders p.availability p.lists
  { units := orders, rCap := runningCapacity ratings orders }

/-- R135: the unit order set is published. -/
def PauseBlock.publish (ratings : Vector Nat 12) (p : PauseBlock) : PauseBlock :=
  { p with orders := some (p.orderSet ratings) }

/-- The work at an edge but for SHORT_ASSIGN, in the order of R129. -/
def PauseBlock.atEdge (d : DemandSet) (ratings : Vector Nat 12) (p : PauseBlock) : PauseBlock :=
  (((p.applyReport.applyLoad.release d).advancePhases).serve d.claims).publish ratings

/-- The pause block's work at an edge (R129). -/
def State.pauseWork (d : DemandSet) (s : State) : State :=
  let p := s.pause.atEdge d s.flow.live.ratings
  State.setCauseIf (p.short d.claims) .shortAssign { s with pause := p }

/-- STOP: every list is emptied and every line goes low (R72, R141). -/
def PauseBlock.standDown (p : PauseBlock) : PauseBlock :=
  { p with lists := Vector.replicate 64 [], lines := Vector.replicate 12 .run }

/-! ### The requests -/

/-- REPORT_UNITS stages the twelve values (R125). -/
def reportUnits (l : List (Option Availability)) (s : State) : State × Response :=
  match checkReport l with
  | none => (s, .bare .badField)
  | some av => ({ s with pause := { s.pause with report := some av } }, .bare .ok)

/-- REPORT_UNITS (R125). -/
def execReportUnits (iss : Issuer) (b : Body (List (Option Availability))) (s : State) :
    Host.Outcome State Fault Refusal :=
  runRequest (.reportUnits iss b) (withFields b reportUnits) s

/-- LOAD_ROTATION writes the shadow table (R137). -/
def loadRotation (l : List Nat) (s : State) : State × Response :=
  match checkRotation l with
  | none => (s, .bare .badField)
  | some table => ({ s with pause := { s.pause with shadow := table, loadPending := true } }, .bare .ok)

/-- LOAD_ROTATION (R137). -/
def execLoadRotation (iss : Issuer) (b : Body (List Nat)) (s : State) : Host.Outcome State Fault Refusal :=
  runRequest (.loadRotation iss b) (withFields b loadRotation) s

/-- READ_ROTATION (R138). -/
def readRotation (_ : Unit) (s : State) : State × Response :=
  (s, { status := .ok, body := .rotation s.pause.live s.pause.shadow s.pause.pointer s.pause.loadPending })

/-- READ_ROTATION (R138). -/
def execReadRotation (iss : Issuer) (b : Body Unit) (s : State) : Host.Outcome State Fault Refusal :=
  runRequest (.readRotation iss b) (withFields b readRotation) s

end Sys2Proof.Machine
end

