-- ==== Sys2Proof/Machine/Output.lean ====
section
/-! DEFINITION. Order output (R189 to R191): the frames it forms, what waits and what begins, the unit order lines, and
FRAME_TRANSMIT_DONE. -/

namespace Sys2Proof.Machine

/-- R190: the order frame of a granted edge. -/
def orderFrame (r : IntervalRecord) : OrderFrame :=
  { interval := r.interval
    kind := some r.kind
    standby := false
    hold := decide (r.kind = .holdEntry)
    deficit := r.deficitRaised
    stale := r.fallbackUsed
    forced := mapTable (fun _ x => x.forced) r.passes
    setpoints := mapTable (fun _ x => x.delivered) r.passes
    tt := r.tt
    spill := r.spill
    qUsed := r.qUsed }

/-- R191: the stand-down frame. -/
def standDownFrame (interval : BitVec 32) : OrderFrame :=
  { interval := interval, kind := none, standby := true, hold := false, deficit := false, stale := false,
    forced := Vector.replicate 6 false, setpoints := Vector.replicate 6 0, tt := 0, spill := 0, qUsed := 0 }

/-- R139, R189: an order frame begins: the transmitter is SENDING, the flag is yes, and the order lines are set from the
unit order set that came with it. -/
def State.beginOrder (f : OrderFrame) (units : Vector UnitOrder 12) (s : State) : State :=
  { s with
    out := { s.out with sending := some f, sentSinceStart := true }
    pause := { s.pause with lines := mapTable (fun _ u => orderLines u.order) units } }

/-- R189: a frame handed by the apportioner begins at once, or waits in place of any order frame waiting. -/
def State.handFrame (f : OrderFrame) (units : Vector UnitOrder 12) (s : State) : State :=
  if s.out.sending.isNone then s.beginOrder f units
  else { s with out := { s.out with waitOrder := some (f, units) } }

/-- R189: a waiting order frame is discarded. -/
def OrderOutput.discardOrder (o : OrderOutput) : OrderOutput := { o with waitOrder := none }

/-- R191: order output at STOP. -/
def OrderOutput.standDown (interval : BitVec 32) (o : OrderOutput) : OrderOutput :=
  let o := o.discardOrder
  if o.sentSinceStart then
    if o.sending.isNone then { o with sending := some (standDownFrame interval) }
    else { o with waitStandDown := some (standDownFrame interval) }
  else o

/-- R189: the last CRC bit has been sent: the first waiting frame begins, a stand-down frame before an order frame, or the
transmitter becomes IDLE. -/
def State.frameDone (s : State) : State :=
  match s.out.waitStandDown with
  | some f => { s with out := { s.out with sending := some f, waitStandDown := none } }
  | none =>
    match s.out.waitOrder with
    | some (f, units) => State.beginOrder f units { s with out := s.out.discardOrder }
    | none => { s with out := { s.out with sending := none } }

/-- FRAME_TRANSMIT_DONE (R189): nothing happens while the transmitter is IDLE. -/
def execFrameTransmitDone (s : State) : Host.Outcome State Fault Refusal :=
  outsideReset s fun s => if s.out.sending.isSome then s.frameDone else s

end Sys2Proof.Machine
end

