-- ==== Sys2Proof/Machine/Edge.lean ====
section
/-! DEFINITION. EDGE_CLAIM_GRANT: the whole work of a granted edge, block by block, in the order of R2, R60, R77, R96 and
R109. -/

namespace Sys2Proof.Machine

/-- R60, R61: the interval number and the last edge kind at the grant. -/
def Timebase.grantEdge (k : EdgeKind) (t : Timebase) : Timebase :=
  { t with interval := if k = .start then 1 else t.interval + 1, lastEdge := some k }

/-- At the grant: a waiting order frame is discarded (R189), the interval number advances (R61), and the apportioner
applies what was staged and chooses Q_used (section 6.5). -/
def State.openEdge (k : EdgeKind) (s : State) : State :=
  { s with out := s.out.discardOrder, time := s.time.grantEdge k, flow := s.flow.atGrant }

/-- Parts 1 and 2 of R77: the conditions are latched, the line snapshot is taken and the slots are walked. -/
def State.passEdge (k : EdgeKind) (s : State) : State :=
  State.walk { conditions := s.conditionsAt k, lines := s.lineSnapshot } { s with latched := s.conditionsAt k }

/-- Part 3 of R77: the demand set, from the slots before the walk and the state after it. -/
def State.demandOf (k : EdgeKind) (before : Vector Slot 64) (s : State) : DemandSet :=
  buildDemand s.time.interval k s.flow.bindings s.flow.live.classMap before s.slots

/-- The unit order set of this edge (R135), from the state the pause block's work has left. -/
def State.unitOrderSet (s : State) : UnitOrderSet := s.pause.orderSet s.flow.live.ratings

/-- What follows the publishing of the demand set `d` (R96, R109): the pause block's work, the apportionment, the hand-off
to order output, and the served_flow write-back. -/
def State.serveEdge (d : DemandSet) (s : State) : State :=
  let s := State.pauseWork d { s with demand := some d }
  let u := s.unitOrderSet
  let r := computeRecord d u s.flow
  State.writeBack d r (State.handFrame (orderFrame r) u.units (s.apportion d u))

/-- The edge's work from its grant to the end of the write-back, with ALERT driven for what changed. -/
def State.edgeWork (k : EdgeKind) (s : State) : State :=
  let s := s.openEdge k
  let before := s.slots
  let s := s.passEdge k
  (s.serveEdge (s.demandOf k before)).driveAlert

/-- EDGE_CLAIM_GRANT (R77): the edge claim holds the table; its work is done, the hold level is compared (R62) and the
table is released. -/
def execEdgeClaimGrant (s : State) : Host.Outcome State Fault Refusal :=
  outsideReset s fun s =>
    match s.arb.holder with
    | .edge k => (s.edgeWork k).compareHold.releaseTable
    | _ => s

end Sys2Proof.Machine
end

