-- ==== Sys2Proof/Machine/Integrity.lean ====
section
/-! DEFINITION. The integrity block's own commands (chapter 10): CLEAR_TRACKING and the scrubber's two. The checked reads
stand in Machine/Ops.lean. -/

namespace Sys2Proof.Machine

/-- CLEAR_TRACKING (R169): the answer gives the counters and flags as they stood. -/
def clearTracking (_ : Unit) (s : State) : State × Response :=
  ({ s with banks := Vector.replicate 4 { count := 0, overflow := false } },
    { status := .ok, body := .tracking s.banks })

/-- CLEAR_TRACKING (R169). -/
def execClearTracking (iss : Issuer) (b : Body Unit) (s : State) : Host.Outcome State Fault Refusal :=
  runRequest (.clearTracking iss b) (withFields b clearTracking) s

/-- R172, R173: the next slot advances by one, from 63 to 0. -/
def Scrubber.advance (x : Scrubber) : Scrubber := { x with next := x.next + 1 }

/-- R76, R173: a step claim still waiting is withdrawn and its slot skipped. -/
def State.skipScrub (s : State) : State :=
  if s.arb.waitScrub then { s with arb := { s.arb with waitScrub := false }, scrub := s.scrub.advance } else s

/-- SCRUB_STEP_DUE (R76, R172, R173): no step falls due while the scrubber is off. -/
def execScrubStepDue (s : State) : Host.Outcome State Fault Refusal :=
  outsideReset s fun s => if s.scrub.enable then s.skipScrub.presentScrub else s

/-- R172: what a step does to its slot. -/
def scrubSlot (sl : Slot) : SlotEffect :=
  match sl.record with
  | none => quietEffect sl
  | some r => if r.life = .quarantined then quietEffect sl else r.readWhole.effect sl.generation

/-- R172: a granted step. -/
def State.scrubNow (s : State) : State :=
  let i := s.scrub.next
  State.driveAlert (State.applyEffect i (scrubSlot s.slots[i]) { s with scrub := s.scrub.advance })

/-- SCRUB_STEP (R172): the scrub step holds the table; it is done and the table is released. -/
def execScrubStep (s : State) : Host.Outcome State Fault Refusal :=
  outsideReset s fun s => if s.arb.holder = .scrubber then s.scrubNow.releaseTable else s

end Sys2Proof.Machine
end

