-- ==== Sys2Proof/Machine/Lookup.lean ====
section
/-! DEFINITION. READ_WINDOW, FIND_TAG, LIST_WINDOWS and READ_STATUS (chapter 3). -/

namespace Sys2Proof.Machine

/-! ### READ_WINDOW -/

/-- R51: the assignment list is returned for a UNIT_PAUSE record alone. -/
def State.listFor (h : Handle) (r : Record) (s : State) : Option (List Assignment) :=
  match r.target with
  | .pass _ => none
  | _ => some s.pause.lists[h.slot]

/-- READ_WINDOW (R47 to R52). -/
def readWindow (raw : RawHandle) (s : State) : State × Response :=
  match checkHandle raw with
  | none => (s, .bare .badField)
  | some h =>
    match s.recordOf h with
    | none => (s, .bare .staleHandle)
    | some r =>
      if r.life = .quarantined then
        (s, { status := .quarantined, body := .directory s.slots[h.slot].directory })
      else
        let x := r.readWhole
        let s' := (s.applyEffect h.slot (ReadResult.effect h.generation x)).driveAlert
        if x.quarantined then (s', { status := .quarantined, body := .directory s'.slots[h.slot].directory })
        else
          (s',
            { status := .ok,
              body := .window s'.slots[h.slot].directory x.record.body (x.record.staged.map (·.change))
                (s.listFor h x.record) })

/-- READ_WINDOW (R47). -/
def execReadWindow (iss : Issuer) (b : Body RawHandle) (s : State) : Host.Outcome State Fault Refusal :=
  runRequest (.readWindow iss b) (withFields b readWindow) s

/-! ### FIND_TAG -/

/-- The handle of the record a slot holds (R13). -/
def State.handleOf (i : SlotId) (s : State) : Handle := { slot := i, generation := s.slots[i].generation }

/-- FIND_TAG, from the tag map alone (R53); tag 0 is never held. -/
def findTag (t : BitVec 16) (s : State) : State × Response :=
  if t = 0 then (s, .bare .noSuch)
  else
    match lookupTag t s.tagMap with
    | some i => (s, { status := .ok, body := .found (s.handleOf i) s.slots[i].state })
    | none => (s, .bare .noSuch)

/-- FIND_TAG (R53). -/
def execFindTag (iss : Issuer) (b : Body (BitVec 16)) (s : State) : Host.Outcome State Fault Refusal :=
  runRequest (.findTag iss b) (withFields b findTag) s

/-! ### LIST_WINDOWS -/

/-- R55: the walk over slots in ascending order, until `room` matches have been found or slot 63 has been examined.
It answers the matches and the next cursor. -/
def listWalk (accepts : Slot → Bool) : Nat → List (SlotId × Slot) → List (Handle × SlotState) × Nat
  | _, [] => ([], 64)
  | 0, (i, _) :: _ => ([], i.val)
  | room + 1, (i, sl) :: rest =>
    if accepts sl then
      let found := ({ slot := i, generation := sl.generation : Handle }, sl.state)
      if room = 0 then ([found], i.val + 1)
      else
        let (more, next) := listWalk accepts room rest
        (found :: more, next)
    else listWalk accepts (room + 1) rest

/-- The slots from a cursor on, in ascending order (R55). -/
def State.slotsFrom (cursor : Nat) (s : State) : List (SlotId × Slot) :=
  ((indices 64).drop cursor).map fun i => (i, s.slots[i])

/-- LIST_WINDOWS (R54, R55). -/
def listWindows (f : ListFields) (s : State) : State × Response :=
  match checkList f with
  | none => (s, .bare .badField)
  | some (filter, cursor) =>
    let (found, next) := listWalk filter.accepts Config.listLimit (s.slotsFrom cursor)
    (s, { status := .ok, body := .list found next })

/-- LIST_WINDOWS (R54 to R56). -/
def execListWindows (iss : Issuer) (b : Body ListFields) (s : State) : Host.Outcome State Fault Refusal :=
  runRequest (.listWindows iss b) (withFields b listWindows) s

/-! ### READ_STATUS -/

/-- R57. -/
def OpState.name : OpState → StateName
  | .standby => .standby
  | .syncing => .syncing
  | .run => .run
  | .hold _ _ => .hold

/-- R160: the hold context; the owner fields follow the owners in every state. -/
def State.holdReport (s : State) : HoldReport :=
  match s.time.opState with
  | .hold o e =>
    { origin := some o, entry := some e, lineHolding := s.time.holdLine.level, flagHolding := s.time.hostHold }
  | _ => { origin := none, entry := none, lineHolding := s.time.holdLine.level, flagHolding := s.time.hostHold }

/-- The eight lifecycle states in the order of R19. -/
def allSlotStates : List SlotState :=
  [.free, .staged, .armed, .pending, .active, .suspended, .ended, .quarantined]

/-- R57: the fields of READ_STATUS. -/
def State.statusReport (s : State) : StatusReport :=
  { state := s.time.opState.name
    interval := s.time.interval
    lastEdge := s.time.lastEdge
    hold := s.holdReport
    counts := allSlotStates.map fun st => (st, s.slotCount st)
    age := s.flow.age
    loadPending := s.pause.loadPending }

/-- READ_STATUS (R57, R58). -/
def readStatus (_ : Unit) (s : State) : State × Response := (s, { status := .ok, body := .status s.statusReport })

/-- READ_STATUS (R57). -/
def execReadStatus (iss : Issuer) (b : Body Unit) (s : State) : Host.Outcome State Fault Refusal :=
  runRequest (.readStatus iss b) (withFields b readStatus) s

end Sys2Proof.Machine
end

