-- ==== Sys2Proof/Machine/Frames.lean ====
section
/-! DEFINITION. The bytes of the frames on the two serial links (R184, R188, R190, section 12.5). -/

namespace Sys2Proof.Machine

/-- One bit of the CRC of R184: polynomial 1021 hex, most significant bit first. -/
def crcBit (c : BitVec 16) : BitVec 16 :=
  if c.msb then (c <<< 1) ^^^ 0x1021#16 else c <<< 1

/-- `n` bits of the CRC. -/
def crcBits : Nat → BitVec 16 → BitVec 16
  | 0, c => c
  | n + 1, c => crcBits n (crcBit c)

/-- One byte of the CRC. -/
def crcByte (c : BitVec 16) (b : Byte) : BitVec 16 := crcBits 8 (c ^^^ (b.setWidth 16 <<< 8))

/-- The CRC of R184: initial value FFFF hex, no reflection, no final inversion. -/
def crc16 (bytes : List Byte) : BitVec 16 := bytes.foldl crcByte 0xFFFF#16

/-- A 16-bit field, high byte first (12.5). -/
def bytes16 (w : BitVec 16) : List Byte := [(w >>> 8).setWidth 8, w.setWidth 8]

/-- A 32-bit field, high byte first (12.5). -/
def bytes32 (w : BitVec 32) : List Byte :=
  [(w >>> 24).setWidth 8, (w >>> 16).setWidth 8, (w >>> 8).setWidth 8, w.setWidth 8]

/-- The bytes followed by their CRC, high byte first (R184). -/
def withCrc (bytes : List Byte) : List Byte := bytes ++ bytes16 (crc16 bytes)

/-- R190, R191: the edge kind byte. -/
def edgeKindByte : Option EdgeKind → Byte
  | none => 0
  | some .start => 1
  | some .timed => 2
  | some .mark => 3
  | some .self => 4
  | some .holdEntry => 5
  | some .holdExit => 6

/-- A bit of a flag byte. -/
def flagBit (b : Bool) (n : Nat) : Byte := if b then BitVec.twoPow 8 n else 0

/-- Byte 6 of the order frame (12.5): bit 7 STANDBY, bit 6 HOLD, bit 5 DEFICIT, bit 4 STALE. -/
def OrderFrame.flagByte (f : OrderFrame) : Byte :=
  flagBit f.standby 7 ||| flagBit f.hold 6 ||| flagBit f.deficit 5 ||| flagBit f.stale 4

/-- Byte 7 of the order frame (12.5): bit n is FORCED of pass n. -/
def OrderFrame.forcedByte (f : OrderFrame) : Byte :=
  (indices 6).foldl (fun b p => b ||| flagBit f.forced[p] p.val) 0

/-- A flow's 16-bit field (R190). -/
def flowBytes (n : Nat) : List Byte := bytes16 (BitVec.ofNat 16 n)

/-- The 28 bytes of an order frame or a stand-down frame (12.5). -/
def OrderFrame.bytes (f : OrderFrame) : List Byte :=
  withCrc
    ([0x5A#8] ++ bytes32 f.interval ++ [edgeKindByte f.kind, f.flagByte, f.forcedByte] ++
      f.setpoints.toList.flatMap flowBytes ++ flowBytes f.tt ++ flowBytes f.spill ++ flowBytes f.qUsed)

/-- One byte on ORD_TX: a start bit (low), eight data bits least significant first, a stop bit (high) (R188). -/
def uartByte (b : Byte) : List Bool :=
  [false] ++ (List.range 8).map b.getLsbD ++ [true]

/-- The bits on ORD_TX while a frame is sent (R188). -/
def OrderFrame.bits (f : OrderFrame) : List Bool := f.bytes.flatMap uartByte

/-- R185: the value of a status. -/
def statusByte : Status → Byte
  | .ok => 0x00
  | .okClamped => 0x01
  | .badField => 0x02
  | .staleHandle => 0x03
  | .tableFull => 0x04
  | .dupTag => 0x05
  | .notPermitted => 0x06
  | .retiring => 0x07
  | .immutable => 0x08
  | .quarantined => 0x09
  | .wrongMode => 0x0A
  | .noSuch => 0x0B
  | .frameError => 0x0C
  | .unknownRequest => 0x0D

/-- The parts of a response body whose bytes are laid out one by one. Two bodies that carry an item in one form (R13, R179)
carry it as the same part. -/
inductive BodyPart where
  | handle (h : Handle)
  | slotState (st : SlotState)
  | matchCount (n : Nat)
  | nextCursor (n : Nat)
  | directory (dir : DirectoryEntry)
  | settings (cls : ClassId) (requestedFlow pauseCount unloadCount : Option Nat) (startMode : StartMode)
      (triggerLine : Option LineId) (startOffset length repeats : Nat) (guard : Option Guard) (autoRelease : Bool)
  | runtime (lead elapsed runsLeft : Nat) (triggerSeen : Option Bool) (servedFlow : Option Nat)
  | amendment (a : Amendment)
  | assignment (a : Assignment)
  | causeSet (sticky : Vector Bool 12) (recordQuarantined linePending : Bool)
  | enableSet (enable : Vector Bool 12) (lineEnable : Bool)
  | counter (n : Nat)
  | overflow (set : Bool)
  | whole (b : ResponseBody)

/-- The settings of a body (R7), as one part of a response. -/
def RecordBody.settings (b : RecordBody) : BodyPart :=
  .settings b.cls b.requestedFlow b.pauseCount b.unloadCount b.startMode b.triggerLine b.startOffset b.length b.repeats
    b.guard b.autoRelease

/-- The runtime fields of a body (R10), as one part of a response. -/
def RecordBody.runtime (b : RecordBody) : BodyPart :=
  .runtime b.lead b.elapsed b.runsLeft b.triggerSeen b.servedFlow

/-- The parts of a response body in their order: R48 for READ_WINDOW (with the assignment list oldest first, R51) and R169 for
CLEAR_TRACKING, the counters and then the flags, bank 0 first. The handle has one form in the answers of OPEN_WINDOW,
FIND_TAG and LIST_WINDOWS (R13), and the cause set one in those of READ_CAUSES and ACK_CAUSES (R179). The order of the parts
of FIND_TAG, LIST_WINDOWS and READ_CAUSES is that in which R53, R55 and R178 name them (DEDUCED, notes/assumptions/5.md). How
the parts are framed is the model's choice (DESIGN CHOICE, notes/assumptions/5.md): they follow one another with no count and
no end mark, an absent part has no bytes, and a list is its entries alone, an empty list no bytes. -/
def ResponseBody.parts : ResponseBody → List BodyPart
  | .empty => []
  | .handle h => [.handle h]
  | .directory dir => [.directory dir]
  | .window dir body staged units =>
    [.directory dir, body.settings, body.runtime] ++ staged.toList.map .amendment ++ (units.getD []).map .assignment
  | .found h st => [.handle h, .slotState st]
  | .list hits next =>
    [.matchCount hits.length] ++ hits.flatMap (fun e => [.handle e.1, .slotState e.2]) ++ [.nextCursor next]
  | .causes sticky q line enable lineEnable => [.causeSet sticky q line, .enableSet enable lineEnable]
  | .causeSet sticky q line => [.causeSet sticky q line]
  | .tracking banks => banks.toList.map (fun b => .counter b.count) ++ banks.toList.map fun b => .overflow b.overflow
  | b => [.whole b]

/-- The bytes of a response body, of which there are below 254 (R185): those of its parts, whose layout is a free value
(notes/assumptions/5.md), held to that bound. -/
def ResponseBody.bytes (b : ResponseBody) : List Byte := (b.parts.flatMap Config.bodyLayout).take Config.maxBody

/-- The response frame (12.5): length, status, body, CRC. -/
def Response.frame (r : Response) : List Byte :=
  withCrc ([BitVec.ofNat 8 (r.body.bytes.length + 1), statusByte r.status] ++ r.body.bytes)

/-- What a read select period shifts out as its `n`-th byte from the second on, `n` from 0 (R182): the response frame and then
00 hex; 00 hex throughout where no response is held. A read changes no state. -/
def State.readByte (s : State) (n : Nat) : Byte :=
  match s.port with
  | .answered r => r.frame.getD n 0
  | _ => 0

/-- ORD_TX while the transmitter is IDLE is high (R188, R189). -/
def State.ordTxIdleHigh (s : State) : Bool := s.out.sending.isNone

/-! ### The request frame -/

/-- R183, checks 1 to 4. `bytes` are the complete bytes of the select period. -/
def frameIntact (bytes : List Byte) (complete : Bool) : Bool :=
  match bytes with
  | [] => false
  | len :: _ =>
    let n := len.toNat
    complete && decide (2 ≤ n ∧ n ≤ 102) && decide (bytes.length = n + 3) &&
      decide (bytes.drop (n + 1) = bytes16 (crc16 (bytes.take (n + 1))))

/-- 12.5: the issuer byte. -/
def issuerOfByte (b : Byte) : Option Issuer :=
  if b = 0 then some .operator else if b = 1 then some .authority else if b = 2 then some .dispatch else none

/-- 12.5: the byte of an issuer. -/
def issuerByte : Issuer → Byte
  | .operator => 0
  | .authority => 1
  | .dispatch => 2

/-- 12.5: a request frame of a code byte, an issuer byte and a body, as a host that keeps the layout sends it. -/
def rawFrame (code issuer : Byte) (body : List Byte) : List Byte :=
  withCrc ([BitVec.ofNat 8 (body.length + 2), code, issuer] ++ body)

/-- 12.5: the frame of a request. -/
def requestFrame (code : Nat) (iss : Issuer) (body : List Byte) : List Byte :=
  rawFrame (BitVec.ofNat 8 code) (issuerByte iss) body

/-- What the port makes of a request frame (R183): a refusal, or a request in hand. -/
inductive FrameVerdict where
  | refuse (st : Status)
  | take (h : InHand)
deriving DecidableEq, Repr

/-- The six checks of R183 in their order. -/
def checkFrame (bytes : List Byte) (complete : Bool) : FrameVerdict :=
  if frameIntact bytes complete then
    let code := (bytes.getD 1 0).toNat
    if 1 ≤ code ∧ code ≤ 0x1C then
      match issuerOfByte (bytes.getD 2 0) with
      | some iss => .take (.frame code iss ((bytes.drop 3).take ((bytes.getD 0 0).toNat - 2)))
      | none => .refuse .badField
    else .refuse .unknownRequest
  else .refuse .frameError

end Sys2Proof.Machine
end

