-- ==== Sys2Proof/Machine/Port.lean ====
section
/-! DEFINITION. REQUEST_FRAME_END (R182, R183): the end of a select period. -/

namespace Sys2Proof.Machine

/-- R182, R183: a request frame has ended with the port IDLE or ANSWERED. A refusal is answered at once and presents no
claim; a request that passes the checks is in hand, and its claim is presented. -/
def State.takeFrame (bytes : List Byte) (complete : Bool) (s : State) : State :=
  match checkFrame bytes complete with
  | .refuse st => { s with port := .answered (.bare st), ready := true }
  | .take h => State.presentRequest { s with port := .working h, ready := false }

/-- The port's work at the end of a select period whose first byte was not 00 hex; a frame that ends while the port is
WORKING is ignored. -/
def State.endFrame (bytes : List Byte) (complete : Bool) (s : State) : State :=
  let s := { s with receiver := bytes }
  match s.port with
  | .working _ => s
  | _ => s.takeFrame bytes complete

/-- The end of a select period: one in which no byte was complete is ignored, and a read changes no state (R181, R182). -/
def State.endSelect (bytes : List Byte) (complete : Bool) (s : State) : State :=
  match bytes with
  | [] => s
  | b :: _ => if b = 0 then s else s.endFrame bytes complete

/-- REQUEST_FRAME_END (R182). -/
def execRequestFrameEnd (bytes : List Byte) (complete : Bool) (s : State) : Host.Outcome State Fault Refusal :=
  outsideReset s (State.endSelect bytes complete)

end Sys2Proof.Machine
end

