-- ==== Sys2Proof/Machine/Reset.lean ====
section
/-! DEFINITION. FULL_RESET and LEAVE_RESET (R192). -/

namespace Sys2Proof.Machine

/-- The cause unit while the part is held in reset: the cause set is empty and ALERT deasserted (R180). -/
def CauseUnit.inReset : CauseUnit :=
  { CauseUnit.initial with sticky := Vector.replicate 12 false, alert := false }

/-- The part held in reset: every output at its reset level and whatever was in progress cut off (R192). The commands that
wait, and the free values taken, are the model's own. -/
def State.heldInReset (s : State) : State :=
  { State.reset with
    inReset := true, ready := false, causes := .inReset, freeIndex := s.freeIndex, pending := s.pending }

/-- Whether a cause of reset resets the part; `free` decides a pulse that may or may not (R192). -/
def resets (free : Bool) : ResetCause → Bool
  | .powerOn => true
  | .resetLow ns =>
    if ns < Config.resetIgnoredBelowNs then false else if ns < Config.resetCertainFromNs then free else true

/-- The cause takes a free value: a pulse of 1 to 10 microseconds (R192). -/
def takesFree : ResetCause → Bool
  | .powerOn => false
  | .resetLow ns => decide (Config.resetIgnoredBelowNs ≤ ns) && decide (ns < Config.resetCertainFromNs)

/-- FULL_RESET (R192). -/
def execFullReset (cause : ResetCause) (s : State) : Host.Outcome State Fault Refusal :=
  let free := Config.shortPulseResets s.freeIndex
  let s := if takesFree cause then { s with freeIndex := s.freeIndex + 1 } else s
  .next (if resets free cause then s.heldInReset else s)

/-- The part as it leaves reset (R192). -/
def State.leftReset (s : State) : State := { State.reset with freeIndex := s.freeIndex, pending := s.pending }

/-- LEAVE_RESET (R192): nothing happens where the part is not held in reset. -/
def execLeaveReset (s : State) : Host.Outcome State Fault Refusal :=
  .next (if s.inReset then s.leftReset else s)

end Sys2Proof.Machine
end

