-- ==== Sys2Proof/Machine/Sensor.lean ====
section
/-! DEFINITION. The sensor block (chapter 8): samples, events and trigger latches, and SET_LINE, READ_LINES, ACK_LINES,
SET_CONDITION and SET_CONDITION_SOURCE. -/

namespace Sys2Proof.Machine

/-! ### Samples and events (R146 to R148, R151) -/

/-- R147: an edge-mode event at this sample. -/
def SensorLine.edgeEvent (x : Bool) (l : SensorLine) : Bool :=
  l.enable &&
    match l.mode with
    | .rise => l.filter.rises x
    | .fall => l.filter.falls x
    | .both => l.filter.rises x || l.filter.falls x
    | .high => false
    | .low => false

/-- R147: a level-mode event at this sample. -/
def SensorLine.levelEvent (x : Bool) (l : SensorLine) : Bool :=
  l.enable &&
    match l.mode with
    | .high => (l.filter.sample x).level
    | .low => !(l.filter.sample x).level
    | _ => false

/-- The line after a sample: its filter moves and an event sets its pending flag (R146, R148). -/
def SensorLine.sample (x : Bool) (l : SensorLine) : SensorLine :=
  { l with filter := l.filter.sample x, pending := l.pending || l.edgeEvent x || l.levelEvent x }

/-- One sample of a sensor line: an edge-mode event offers a trigger latch, behind those that wait (R151). -/
def State.sampleLine (m : LineId) (x : Bool) (s : State) : State :=
  State.driveAlert
    { s with
      sensors := s.sensors.set m (s.sensors[m].sample x)
      latches := if s.sensors[m].edgeEvent x then s.latches ++ [m] else s.latches }

/-- SENSOR_LINE_SAMPLE (R146). -/
def execSensorLineSample (m : LineId) (level : Bool) (s : State) : Host.Outcome State Fault Refusal :=
  outsideReset s (State.sampleLine m level)

/-- The filter of line `m` as it stands before the sample that makes the transition to `x`. -/
def State.beforeTransition (m : LineId) (x : Bool) (s : State) : State :=
  { s with sensors := s.sensors.set m { s.sensors[m] with filter := .before x } }

/-- What happens at LINE_EVENT, as a sample: the one that makes the rise or the fall, or one at the filtered level. The
samples before it need not have been commanded (notes/assumptions/12.md). -/
def State.lineEvent (m : LineId) (h : LineHappening) (s : State) : State :=
  match h with
  | .rise => (s.beforeTransition m true).sampleLine m true
  | .fall => (s.beforeTransition m false).sampleLine m false
  | .level => s.sampleLine m s.sensors[m].filter.level

/-- LINE_EVENT (R147). -/
def execLineEvent (m : LineId) (h : LineHappening) (s : State) : Host.Outcome State Fault Refusal :=
  outsideReset s (State.lineEvent m h)

/-! ### Trigger latches (R151) -/

/-- The latch for line `m` reaches a body: trigger_seen becomes yes where the record is bound to the line. -/
def RecordBody.latch (m : LineId) (b : RecordBody) : RecordBody :=
  if b.triggerLine = some m then { b with triggerSeen := b.triggerSeen.map fun _ => true } else b

/-- A latch at one slot: an ARMED record's body is read through the check, and latched unless it is quarantined. -/
def latchSlot (m : LineId) (sl : Slot) : SlotEffect :=
  match sl.record with
  | none => quietEffect sl
  | some r =>
    if r.life = .armed then
      let x := r.readBody
      if x.quarantined then x.effect sl.generation
      else ReadResult.effect sl.generation { x with record := { x.record with body := x.record.body.latch m } }
    else quietEffect sl

/-- The latch over the table, in slot order (R151). -/
def State.latchTable (m : LineId) (s : State) : State :=
  (indices 64).foldl (fun acc i => acc.noteEffect i (latchSlot m s.slots[i]))
    { s with slots := mapTable (fun _ sl => (latchSlot m sl).slot) s.slots }

/-- The oldest waiting latch is taken, and then the next claim may be granted (R2, R74). -/
def State.takeLatch (m : LineId) (s : State) : State :=
  match s.latches with
  | [] => s
  | m' :: rest =>
    if m = m' ∧ s.arb.holder = .nobody then
      State.grantNext { (s.latchTable m).driveAlert with latches := rest }
    else s

/-- TRIGGER_LATCH (R151): nothing happens where a claim holds the table or the line's latch is not the oldest waiting. -/
def execTriggerLatch (m : LineId) (s : State) : Host.Outcome State Fault Refusal :=
  outsideReset s (State.takeLatch m)

/-! ### The requests -/

/-- R144: the line after an accepted SET_LINE. -/
def SensorLine.configure (mode : LineMode) (enable : Bool) (base : SampleBase) (prescale : Fin 8) (l : SensorLine) :
    SensorLine :=
  { mode := mode
    enable := enable
    base := base
    prescale := prescale
    filter := if base = l.base ∧ prescale = l.prescale then l.filter else { l.filter with previous := none }
    pending := l.pending && decide (mode = l.mode ∧ enable = l.enable) }

/-- SET_LINE (R144). -/
def setLine (f : LineFields) (s : State) : State × Response :=
  match index? 8 f.line, f.mode, f.enable, f.base, index? 8 f.prescale with
  | some m, some mode, some enable, some base, some n =>
    (State.driveAlert { s with sensors := s.sensors.set m (s.sensors[m].configure mode enable base n) }, .bare .ok)
  | _, _, _, _, _ => (s, .bare .badField)

/-- SET_LINE (R144). -/
def execSetLine (iss : Issuer) (b : Body LineFields) (s : State) : Host.Outcome State Fault Refusal :=
  runRequest (.setLine iss b) (withFields b setLine) s

/-- R150: the line part of READ_LINES for one line. -/
def SensorLine.report (l : SensorLine) : LineReport :=
  { mode := l.mode, enable := l.enable, base := l.base, prescale := l.prescale, level := l.filter.level,
    pending := l.pending }

/-- R150: the condition part of READ_LINES for one condition. -/
def conditionReport (sensors : Vector SensorLine 8) (c : Condition) : ConditionReport :=
  { hostValue := c.hostValue, source := c.source, current := currentValue sensors c }

/-- READ_LINES (R150). -/
def readLines (_ : Unit) (s : State) : State × Response :=
  (s,
    { status := .ok,
      body := .lines (mapTable (fun _ l => l.report) s.sensors)
        (mapTable (fun _ c => conditionReport s.sensors c) s.conditions) })

/-- READ_LINES (R150). -/
def execReadLines (iss : Issuer) (b : Body Unit) (s : State) : Host.Outcome State Fault Refusal :=
  runRequest (.readLines iss b) (withFields b readLines) s

/-- ACK_LINES (R149). -/
def ackLines (l : List Nat) (s : State) : State × Response :=
  match checkLines l with
  | none => (s, .bare .badField)
  | some ms =>
    (State.driveAlert
        { s with
          sensors := mapTable (fun m x => if m ∈ ms then { x with pending := false } else x) s.sensors },
      .bare .ok)

/-- ACK_LINES (R149). -/
def execAckLines (iss : Issuer) (b : Body (List Nat)) (s : State) : Host.Outcome State Fault Refusal :=
  runRequest (.ackLines iss b) (withFields b ackLines) s

/-- SET_CONDITION (R155). -/
def setCondition (f : ConditionFields) (s : State) : State × Response :=
  match checkCondition f.condition, f.value with
  | some c, some v =>
    ({ s with conditions := s.conditions.set c { s.conditions[c] with hostValue := v } }, .bare .ok)
  | _, _ => (s, .bare .badField)

/-- SET_CONDITION (R155). -/
def execSetCondition (iss : Issuer) (b : Body ConditionFields) (s : State) : Host.Outcome State Fault Refusal :=
  runRequest (.setCondition iss b) (withFields b setCondition) s

/-- SET_CONDITION_SOURCE (R156). -/
def setConditionSource (f : SourceFields) (s : State) : State × Response :=
  match checkCondition f.condition, checkSource f.source with
  | some c, some src =>
    ({ s with conditions := s.conditions.set c { s.conditions[c] with source := src } }, .bare .ok)
  | _, _ => (s, .bare .badField)

/-- SET_CONDITION_SOURCE (R156). -/
def execSetConditionSource (iss : Issuer) (b : Body SourceFields) (s : State) : Host.Outcome State Fault Refusal :=
  runRequest (.setConditionSource iss b) (withFields b setConditionSource) s

end Sys2Proof.Machine
end

