-- ==== Sys2Proof/Machine/Time.lean ====
section
/-! DEFINITION. The interval timebase (chapters 4 and 9): START, STOP, HOLD_ON, HOLD_OFF, the expiries, the marks and the
HOLD line. -/

namespace Sys2Proof.Machine

/-! ### START and STOP -/

/-- START's effect in STANDBY: the sent-since-START flag becomes no (R189), and the state follows the hold level and the
timebase (R69, R160). -/
def State.startNow (s : State) : State :=
  let s := { s with out := { s.out with sentSinceStart := false } }
  if s.holdLevel then { s with time := { s.time with opState := .hold .starting s.time.interval } }
  else s.startReleased

/-- START (R69). -/
def start (_ : Unit) (s : State) : State × Response :=
  if s.time.opState = .standby then (s.startNow, .bare .ok) else (s, .bare .wrongMode)

/-- START (R69). -/
def execStart (iss : Issuer) (b : Body Unit) (s : State) : Host.Outcome State Fault Refusal :=
  runRequest (.start iss b) (withFields b start) s

/-- R72: the timebase at STOP. -/
def Timebase.stop (t : Timebase) : Timebase := { t with opState := .standby, hostHold := false }.halt

/-- What STOP does block by block: the timebase (R72), the withdrawal of a waiting edge claim (R73), the pause block (R141),
the staged settings and bindings (R102, R105), and order output (R191). -/
def State.stopNow (s : State) : State :=
  { s with
    time := s.time.stop
    arb := { s.arb with waitEdge := none }
    pause := s.pause.standDown
    flow := s.flow.applyStaged.takeBindings
    out := s.out.standDown s.time.interval }

/-- STOP (R72). -/
def stop (_ : Unit) (s : State) : State × Response :=
  if s.time.opState = .standby then (s, .bare .wrongMode) else (s.stopNow, .bare .ok)

/-- STOP (R72). -/
def execStop (iss : Issuer) (b : Body Unit) (s : State) : Host.Outcome State Fault Refusal :=
  runRequest (.stop iss b) (withFields b stop) s

/-! ### HOLD_ON and HOLD_OFF (R159) -/

/-- The host hold flag becomes `v`; the timebase takes a change of the level within the request. -/
def setHostHold (v : Bool) (_ : Unit) (s : State) : State × Response :=
  (s.changeHoldOwner { s.time with hostHold := v }, .bare .ok)

/-- HOLD_ON (R159). -/
def execHoldOn (iss : Issuer) (b : Body Unit) (s : State) : Host.Outcome State Fault Refusal :=
  runRequest (.holdOn iss b) (withFields b (setHostHold true)) s

/-- HOLD_OFF (R159). -/
def execHoldOff (iss : Issuer) (b : Body Unit) (s : State) : Host.Outcome State Fault Refusal :=
  runRequest (.holdOff iss b) (withFields b (setHostHold false)) s

/-! ### The expiries -/

/-- INTERVAL_TIMER_EXPIRY (R63): the timer runs in RUN; an expiry cannot come while an edge claim is outstanding (R62). -/
def execIntervalTimerExpiry (s : State) : Host.Outcome State Fault Refusal :=
  outsideReset s fun s =>
    if s.time.timerRunning && !s.edgeOutstanding then s.raiseEdge .timed else s

/-- LOST_MARK_LIMIT_EXPIRY (R66): a SELF edge, with MARK_LOST. -/
def execLostMarkLimitExpiry (s : State) : Host.Outcome State Fault Refusal :=
  outsideReset s fun s =>
    if s.time.windowOpen && !s.edgeOutstanding then ((s.setCause .markLost).raiseEdge .self).driveAlert else s

/-! ### Marks -/

/-- R62, R65: a mark `t` ms after the last edge is early. -/
def State.markEarly (t : Nat) (s : State) : Bool :=
  s.edgeOutstanding || decide (t < Config.earlyLimitMs s.time.lengthMin)

/-- A mark taken `t` ms after the last edge, by state and timebase (R65, R67, R70). -/
def State.takeMark (t : Nat) (s : State) : State :=
  match s.time.opState, s.time.source with
  | .syncing, _ => s.raiseEdge .start
  | .run, .follow => if s.markEarly t then (s.setCause .earlyMark).driveAlert else s.raiseEdge .mark
  | _, _ => s

/-- One sample of MARK (R64): a rise of the filtered level is a mark. -/
def State.sampleMark (level : Bool) (t : Nat) (s : State) : State :=
  let f := s.time.markFilter
  let s' := { s with time := { s.time with markFilter := f.sample level } }
  if f.rises level then s'.takeMark t else s'

/-- MARK_SAMPLE (R64). -/
def execMarkSample (level : Bool) (sinceEdge : Nat) (s : State) : Host.Outcome State Fault Refusal :=
  outsideReset s (State.sampleMark level sinceEdge)

/-- The MARK filter as it stands before the sample that completes a rise. -/
def State.beforeMark (s : State) : State := { s with time := { s.time with markFilter := .before true } }

/-- MARK (R64, R65): a filtered rise, which is the sample that completes it. The samples before it need not have been
commanded (notes/assumptions/12.md). -/
def execMark (sinceEdge : Nat) (s : State) : Host.Outcome State Fault Refusal :=
  outsideReset s fun s => s.beforeMark.sampleMark true sinceEdge

/-! ### The HOLD line -/

/-- One sample of HOLD (R158). -/
def State.sampleHold (level : Bool) (s : State) : State :=
  s.changeHoldOwner { s.time with holdLine := s.time.holdLine.sample level }

/-- HOLD_LINE_CHANGE (R158): the filtered level takes `level`, by two samples of it. -/
def execHoldLineChange (level : Bool) (s : State) : Host.Outcome State Fault Refusal :=
  outsideReset s fun s => (s.sampleHold level).sampleHold level

end Sys2Proof.Machine
end

