-- ==== Sys2Proof/Machine/Dispatch.lean ====
section
/-! DEFINITION. The meaning of every command: one arm for each row of spec/opcode_table.json. -/

namespace Sys2Proof.Machine

def exec (i : Instr) (s : State) : Host.Outcome State Fault Refusal :=
  match i with
  | .openWindow iss b => Sys2Proof.Machine.execOpenWindow iss b s
  | .amendWindow iss b => Sys2Proof.Machine.execAmendWindow iss b s
  | .retireWindow iss b => Sys2Proof.Machine.execRetireWindow iss b s
  | .purge iss b => Sys2Proof.Machine.execPurge iss b s
  | .readWindow iss b => Sys2Proof.Machine.execReadWindow iss b s
  | .findTag iss b => Sys2Proof.Machine.execFindTag iss b s
  | .listWindows iss b => Sys2Proof.Machine.execListWindows iss b s
  | .readInterval iss b => Sys2Proof.Machine.execReadInterval iss b s
  | .readStatus iss b => Sys2Proof.Machine.execReadStatus iss b s
  | .reportInflow iss b => Sys2Proof.Machine.execReportInflow iss b s
  | .reportUnits iss b => Sys2Proof.Machine.execReportUnits iss b s
  | .setBinding iss b => Sys2Proof.Machine.execSetBinding iss b s
  | .setSettings iss bytes => Sys2Proof.Machine.execSetSettings iss bytes s
  | .loadRotation iss b => Sys2Proof.Machine.execLoadRotation iss b s
  | .readRotation iss b => Sys2Proof.Machine.execReadRotation iss b s
  | .setLine iss b => Sys2Proof.Machine.execSetLine iss b s
  | .readLines iss b => Sys2Proof.Machine.execReadLines iss b s
  | .ackLines iss b => Sys2Proof.Machine.execAckLines iss b s
  | .setCondition iss b => Sys2Proof.Machine.execSetCondition iss b s
  | .setConditionSource iss b => Sys2Proof.Machine.execSetConditionSource iss b s
  | .start iss b => Sys2Proof.Machine.execStart iss b s
  | .stop iss b => Sys2Proof.Machine.execStop iss b s
  | .holdOn iss b => Sys2Proof.Machine.execHoldOn iss b s
  | .holdOff iss b => Sys2Proof.Machine.execHoldOff iss b s
  | .readCauses iss b => Sys2Proof.Machine.execReadCauses iss b s
  | .ackCauses iss b => Sys2Proof.Machine.execAckCauses iss b s
  | .setAlertMask iss b => Sys2Proof.Machine.execSetAlertMask iss b s
  | .clearTracking iss b => Sys2Proof.Machine.execClearTracking iss b s
  | .requestFrameEnd bytes complete => Sys2Proof.Machine.execRequestFrameEnd bytes complete s
  | .intervalTimerExpiry => Sys2Proof.Machine.execIntervalTimerExpiry s
  | .mark sinceEdge => Sys2Proof.Machine.execMark sinceEdge s
  | .lostMarkLimitExpiry => Sys2Proof.Machine.execLostMarkLimitExpiry s
  | .holdLineChange level => Sys2Proof.Machine.execHoldLineChange level s
  | .edgeClaimGrant => Sys2Proof.Machine.execEdgeClaimGrant s
  | .frameTransmitDone => Sys2Proof.Machine.execFrameTransmitDone s
  | .lineEvent m h => Sys2Proof.Machine.execLineEvent m h s
  | .triggerLatch m => Sys2Proof.Machine.execTriggerLatch m s
  | .scrubStepDue => Sys2Proof.Machine.execScrubStepDue s
  | .scrubStep => Sys2Proof.Machine.execScrubStep s
  | .fullReset cause => Sys2Proof.Machine.execFullReset cause s
  | .leaveReset => Sys2Proof.Machine.execLeaveReset s
  | .sensorLineSample m level => Sys2Proof.Machine.execSensorLineSample m level s
  | .markSample level sinceEdge => Sys2Proof.Machine.execMarkSample level sinceEdge s

end Sys2Proof.Machine
end

