-- ==== Sys2Proof/Safety.lean ====
section
/-! DEFINITION. What a sound state is: the laws of the spec that hold after every event, each as a predicate on the state,
and the words the statements use for when a command is taken. -/

namespace Sys2Proof.Machine

/-! ### When a command is taken -/

/-- The command is one of the 28 requests (R186). -/
def isRequest (i : Instr) : Prop := (requestOf i).isSome = true

/-- No request is in hand (R182). -/
def State.portFree (s : State) : Prop := ∀ h, s.port ≠ .working h

/-- A request's command is taken at once: the part is out of reset, no request is in hand and the table is free (R74). -/
def State.free (s : State) : Prop := s.inReset = false ∧ s.portFree ∧ s.tableFree = true

/-- An edge claim of kind `k` holds the table, with the part out of reset (R60). -/
def State.edgeGranted (k : EdgeKind) (s : State) : Prop := s.inReset = false ∧ s.arb.holder = .edge k

/-- The record of a slot (R3). -/
def State.recordAt (i : SlotId) (s : State) : Option Record := s.slots[i].record

/-- An edge claim of kind `k` is presented: the arbiter then holds it on a free table, and has it waiting otherwise (R74). -/
def State.claimed (k : EdgeKind) (s : State) : Arbiter :=
  if s.tableFree then { s.arb with holder := .edge k } else { s.arb with waitEdge := some k }

/-! ### Fields as a request carries them -/

/-- The target as a request names it (R25). -/
def Target.raw : Target → RawTarget
  | .pass p => .pass p.val
  | .fixed u => .fixed u.val
  | .any => .any

/-- The guard as a request carries it (R25). -/
def Guard.raw (g : Guard) : RawGuard := { condition := g.condition.val, polarity := some g.polarity, mode := some g.mode }

/-- The guard change as a request carries it (R32). -/
def GuardChange.raw : GuardChange → RawGuardChange
  | .given g => .given g.raw
  | .remove => .remove

/-- R36, R82: `b'` is the body `b` with each present field of `a` in place of its setting; the fields fixed at open and the
runtime fields are kept. -/
def Amendment.writes (a : Amendment) (b b' : RecordBody) : Prop :=
  b'.cls = a.cls.getD b.cls ∧ (∀ v, a.requestedFlow = some v → b'.requestedFlow = some v) ∧
    (a.requestedFlow = none → b'.requestedFlow = b.requestedFlow) ∧ b'.length = a.length.getD b.length ∧
    b'.repeats = a.repeats.getD b.repeats ∧ (∀ g, a.guard = some (.given g) → b'.guard = some g) ∧
    (a.guard = some .remove → b'.guard = none) ∧ (a.guard = none → b'.guard = b.guard) ∧
    b'.autoRelease = a.autoRelease.getD b.autoRelease ∧ (∀ n, a.pauseCount = some n → b'.pauseCount = some n) ∧
    (a.pauseCount = none → b'.pauseCount = b.pauseCount) ∧ (∀ n, a.unloadCount = some n → b'.unloadCount = some n) ∧
    (a.unloadCount = none → b'.unloadCount = b.unloadCount) ∧ b'.startOffset = a.startOffset.getD b.startOffset ∧
    b'.startMode = b.startMode ∧ b'.triggerLine = b.triggerLine ∧ b'.lead = b.lead ∧ b'.elapsed = b.elapsed ∧
    b'.runsLeft = b.runsLeft ∧ b'.triggerSeen = b.triggerSeen ∧ b'.servedFlow = b.servedFlow

/-- A field of a merged amendment: the new value where the new amendment names it, else what was held. -/
def mergedField {α : Type} (new old merged : Option α) : Prop :=
  (∀ v, new = some v → merged = some v) ∧ (new = none → merged = old)

/-- R12, R37: `m` is the amendment `old` with each field that `new` names replaced by it. -/
def Amendment.merges (new old m : Amendment) : Prop :=
  mergedField new.cls old.cls m.cls ∧ mergedField new.requestedFlow old.requestedFlow m.requestedFlow ∧
    mergedField new.length old.length m.length ∧ mergedField new.repeats old.repeats m.repeats ∧
    mergedField new.guard old.guard m.guard ∧ mergedField new.autoRelease old.autoRelease m.autoRelease ∧
    mergedField new.pauseCount old.pauseCount m.pauseCount ∧ mergedField new.unloadCount old.unloadCount m.unloadCount ∧
    mergedField new.startOffset old.startOffset m.startOffset

end Sys2Proof.Machine

namespace Sys2Proof

open Machine

/-- R26, R35: a guard a request carries is one the part holds. -/
def RawGuard.sound (g : RawGuard) : Prop := g.condition ≤ 7 ∧ g.polarity.isSome = true ∧ g.mode.isSome = true

/-- R35: what check 7 of an amendment asks of its fields, for a record of target `t`. -/
def AmendFields.sound (t : Target) (f : AmendFields) : Prop :=
  f.malformed = false ∧
    (f.cls ≠ none ∨ f.requestedFlow ≠ none ∨ f.length ≠ none ∨ f.repeats ≠ none ∨ f.guard ≠ none ∨
      f.autoRelease ≠ none ∨ f.pauseCount ≠ none ∨ f.unloadCount ≠ none ∨ f.startOffset ≠ none) ∧
    (∀ c, f.cls = some c → c ≤ 7) ∧ (f.requestedFlow ≠ none → t.kind = .passFlow) ∧
    (∀ g, f.guard = some (.given g) → g.sound) ∧
    (∀ n, f.pauseCount = some n → t = .any ∧ 1 ≤ n ∧ n ≤ 12) ∧
    ∀ n, f.unloadCount = some n → t.kind = .unitPause ∧ n ≤ 15

/-- R32, R35: the amendment `a` holds the values that the fields name, and no others. -/
def AmendFields.names (f : AmendFields) (a : Amendment) : Prop :=
  f.cls = a.cls.map (·.val) ∧ a.requestedFlow = f.requestedFlow.map (·.toNat) ∧
    a.length = f.length.map (·.toNat) ∧ a.repeats = f.repeats.map (·.toNat) ∧ f.guard = a.guard.map GuardChange.raw ∧
    a.autoRelease = f.autoRelease ∧ a.pauseCount = f.pauseCount ∧ a.unloadCount = f.unloadCount ∧
    a.startOffset = f.startOffset.map (·.toNat)

/-- R147: the mode makes an edge event at a transition to `x`. -/
def LineMode.edgeAt (x : Bool) (m : LineMode) : Prop := m = .both ∨ m = .rise ∧ x = true ∨ m = .fall ∧ x = false

/-- R147: the mode makes a level event at a sample that leaves the filtered level at `x`. -/
def LineMode.levelAt (x : Bool) (m : LineMode) : Prop := m = .high ∧ x = true ∨ m = .low ∧ x = false

/-- R54: a part of the filter against a field of the slot's record: ALL, or the slot has a record whose field is named. -/
def FilterPart.wants {α : Type} (part : FilterPart α) (field : Record → α) (sl : Slot) : Prop :=
  part = .all ∨ ∃ r, sl.record = some r ∧ part = .only (field r)

/-- R54: the slot matches the filter. -/
def ListFields.wants (f : ListFields) (sl : Slot) : Prop :=
  ((sl.record = none ∧ some .free ∈ f.states) ∨ ∃ r, sl.record = some r ∧ some r.life.toSlotState ∈ f.states) ∧
    f.kind.wants (·.target.kind) sl ∧ f.target.wants (·.target.raw) sl ∧ f.owner.wants (·.owner) sl

/-- R54: a target that a filter may name. -/
def RawTarget.onStation : RawTarget → Prop
  | .pass n => n ≤ 5
  | .fixed n => n ≤ 11
  | .any => True

/-- R54: what makes LIST_WINDOWS be refused. -/
def ListFields.faulty (f : ListFields) : Prop :=
  f.states = [] ∨ none ∈ f.states ∨ f.kind = .outside ∨ f.target = .outside ∨ (∃ t, f.target = .only t ∧ ¬t.onStation) ∨
    f.owner = .outside ∨ 64 < f.cursor

end Sys2Proof

namespace Sys2Proof.Machine

/-! ### What a read of a record leaves and answers -/

/-- The staged amendment as a checked read leaves it (R167, R171). -/
def Record.stagedRead (r : Record) : Option Staged :=
  match r.staged with
  | none => none
  | some x => if x.check = .uncorrectable then none else some { change := x.change, check := .clean }

/-- The corrections that a read of the body and the amendment makes (R168). -/
def Record.corrections (r : Record) : Nat :=
  (if r.check = .singleBit then 1 else 0) + if r.staged.map (·.check) = some .singleBit then 1 else 0

/-- The directory entry of a slot of generation `g` that holds the record (R3, R48). -/
def Record.entry (g : BitVec 4) (r : Record) : DirectoryEntry :=
  { state := r.life.toSlotState, generation := g, owner := some r.owner, tag := r.tag, target := some r.target,
    retirePending := r.retirePending, stagedPresent := r.staged.isSome }

/-! ### What an edge leaves of a slot -/

/-- The slot holds the record `r` with a clean body, up to served_flow, which the write-back gives (R93). -/
def Slot.holds (sl : Slot) (g : BitVec 4) (r : Record) : Prop :=
  ∃ v, sl = { generation := g, record := some { r with check := .clean, body := { r.body with servedFlow := v } } }

/-- R91: the slot after the record `r`, in a slot of generation `g`, has come to the end of a run. -/
def Slot.runEnded (sl : Slot) (g : BitVec 4) (r : Record) : Prop :=
  (0 < r.body.runsLeft → r.body.startMode = .trigger →
    sl.holds g
      { r with life := .armed,
               body := { r.body with elapsed := 0, lead := 0, triggerSeen := r.body.triggerSeen.map fun _ => false,
                                     runsLeft := if r.body.runsLeft = 255 then 255 else r.body.runsLeft - 1 } }) ∧
  (0 < r.body.runsLeft → r.body.startMode = .immediate →
    sl.holds g
      { r with life := .pending,
               body := { r.body with elapsed := 0, lead := r.body.startOffset,
                                     runsLeft := if r.body.runsLeft = 255 then 255 else r.body.runsLeft - 1 } }) ∧
  (r.body.runsLeft = 0 → r.body.autoRelease = true → sl = { generation := g + 1, record := none }) ∧
  (r.body.runsLeft = 0 → r.body.autoRelease = false →
    sl.holds g
      { r with life := .ended,
               body := { r.body with lead := 0, triggerSeen := r.body.triggerSeen.map fun _ => false } })

/-- R86, R87: the slot after the record `r`, PENDING with the lead it is left with, has been counted: it stays PENDING while
lead is above 0, and otherwise starts by its guard against the latched conditions. -/
def Slot.counted (sl : Slot) (g : BitVec 4) (latched : Vector Bool 8) (r : Record) : Prop :=
  (0 < r.body.lead → sl.holds g { r with life := .pending }) ∧
  (r.body.lead = 0 → guardMet latched r.body.guard = true →
    sl.holds g { r with life := .active, body := { r.body with elapsed := 0 } }) ∧
  (∀ gd, r.body.lead = 0 → r.body.guard = some gd → guardMet latched (some gd) = false → gd.mode = .wait →
    sl.holds g { r with life := .suspended, body := { r.body with elapsed := 0 } }) ∧
  (∀ gd, r.body.lead = 0 → r.body.guard = some gd → guardMet latched (some gd) = false → gd.mode = .skip →
    sl.runEnded g r)

/-- R84: the body is triggered by its latch, or by its line's level. -/
def State.triggers (s : State) (b : RecordBody) : Prop :=
  b.triggerSeen = some true ∨
    ∃ m, b.triggerLine = some m ∧ s.sensors[m].enable = true ∧
      (s.sensors[m].mode = .high ∧ s.sensors[m].filter.level = true ∨
        s.sensors[m].mode = .low ∧ s.sensors[m].filter.level = false)

/-- The body as step 3 of the edge pass leaves it (R82). -/
def Record.bodyAtStep3 (r : Record) : RecordBody :=
  match r.stagedRead with
  | none => r.body
  | some x =>
    { r.body.write x.change with
      runsLeft := if r.life = .ended then r.body.runsLeft else x.change.repeats.getD r.body.runsLeft
      lead := x.change.startOffset.getD r.body.lead }

/-- R83, R84, R86: the record, with the body `b` after step 3, comes to its start at this edge: its lead is 0 at step 6. -/
def State.starts (s : State) (r : Record) (b : RecordBody) : Prop :=
  r.life = .pending ∧ b.lead ≤ 1 ∨ r.life = .staged ∧ b.startMode = .immediate ∧ b.startOffset = 0 ∨
    r.life = .armed ∧ s.triggers b ∧ b.startOffset = 0

/-- R87: the edge nullifies the start of the record in slot `i`. -/
def State.nullifies (s : State) (latched : Vector Bool 8) (i : SlotId) : Prop :=
  ∃ r g, s.recordAt i = some r ∧ r.retirePending = false ∧ r.life ≠ .quarantined ∧ r.check ≠ .uncorrectable ∧
    s.starts r r.bodyAtStep3 ∧ r.bodyAtStep3.guard = some g ∧ g.mode = .skip ∧ latched[g.condition] ≠ g.polarity

/-- The unit as an edge assigns it to the claim (R128). -/
def PauseClaim.newEntry (c : PauseClaim) (u : UnitId) : Assignment :=
  { unit := u, phase := if c.unloadCount = 0 then .stop else .unload, unloadLeft := c.unloadCount }

/-- R137: where the walks of an edge begin: phase 0 once a load is applied, else the pointer as it stands. -/
def PauseBlock.walkStart (p : PauseBlock) : PhaseId := if p.loadPending then 0 else p.pointer

/-- R126, R130: what stays of the list of slot `i` after step 3 of an edge: the entries whose unit is not lost to a staged
report, none of a released slot, and at most its claim's count of the oldest. -/
def PauseBlock.kept (p : PauseBlock) (d : DemandSet) (i : SlotId) : List Assignment :=
  if i ∈ d.release then []
  else
    let there := p.lists[i].filter fun a => p.report.all fun av => decide (av[a.unit] = .available)
    match d.claims.find? fun c => decide (c.slot = i) with
    | some c => there.take c.count
    | none => there

/-- The unit stays on a list through step 3 of an edge (R126, R130). -/
def PauseBlock.keeps (p : PauseBlock) (d : DemandSet) (u : UnitId) : Prop := ∃ i, ∃ a ∈ p.kept d i, a.unit = u

/-- The lists as the ANY claims of an edge find them: the units kept, each advanced by one interval (R131), and, of a slot
without an ANY claim, its list as the edge leaves it (R132). -/
def PauseBlock.beforeWalks (p : PauseBlock) (d : DemandSet) (after : Vector (List Assignment) 64) :
    Vector (List Assignment) 64 :=
  Vector.ofFn fun i =>
    if d.claims.any fun c => decide (c.slot = i ∧ c.target = .any) then (p.kept d i).map Assignment.advance else after[i]

/-- R168: the corrections that a trigger latch makes at slot `i`: one where an ARMED record's body has a single-bit error. -/
def State.latchFixes (s : State) (i : SlotId) : Nat :=
  match s.recordAt i with
  | none => 0
  | some r => if r.life = .armed ∧ r.check = .singleBit then 1 else 0

/-! ### The SET_SETTINGS items -/

/-- 12.5: the item code and the index of a setting. -/
def Setting.item : Setting → Nat × Nat
  | .length => (0x01, 0)
  | .timebase => (0x02, 0)
  | .residual => (0x03, 0)
  | .fallback => (0x04, 0)
  | .staleLimit => (0x05, 0)
  | .passMax p => (0x06, p.val)
  | .rampUp p => (0x07, p.val)
  | .rampDown p => (0x08, p.val)
  | .safe p => (0x09, p.val)
  | .rating u => (0x0A, u.val)
  | .classMap c => (0x0B, c.val)
  | .style => (0x0C, 0)
  | .scrubber => (0x0D, 0)

/-- R59, R101, R187: the values accepted of a setting. -/
def Setting.accepts : Setting → Nat → Prop
  | .length, v => 1 ≤ v ∧ v ≤ 60
  | .timebase, v => v = 0 ∨ v = 1
  | .residual, v => v ≤ 20000
  | .fallback, v => v ≤ 60000
  | .staleLimit, v => 1 ≤ v ∧ v ≤ 16
  | .passMax _, v => v ≤ 2000
  | .rampUp _, v => v ≤ 2000
  | .rampDown _, v => v ≤ 2000
  | .safe _, _ => True
  | .rating _, v => v ≤ 6000
  | .classMap c, v => v = 0 ∨ v = 1 ∧ c ≠ 0
  | .style, v => v = 0 ∨ v = 1
  | .scrubber, v => v = 0 ∨ v = 1

/-- A record that the pass takes beyond its body read, with no amendment staged (R80, R81, R90). -/
def Record.passes (r : Record) : Prop := r.retirePending = false ∧ r.check ≠ .uncorrectable ∧ r.staged = none

/-! ### What a grant, or STOP, makes of the staged settings -/

/-- A value cut to a maximum, where one is written (R103). -/
def cutTo (m : Option Nat) (v : Nat) : Nat :=
  match m with
  | some m => min v m
  | none => v

/-- R102, R103: `b` is `a` with every present staged value live, the staged record empty, and the safe value of each pass whose
maximum is written cut to it. -/
def settingsTaken (a b : Apportioner) : Prop :=
  b.staged = .none ∧ b.live.residual = a.staged.residual.getD a.live.residual ∧
    b.live.fallback = a.staged.fallback.getD a.live.fallback ∧
    b.live.staleLimit = a.staged.staleLimit.getD a.live.staleLimit ∧
    b.live.style = a.staged.style.getD a.live.style ∧
    (∀ u : UnitId, b.live.ratings[u] = a.staged.ratings[u].getD a.live.ratings[u]) ∧
    (∀ c : ClassId, b.live.classMap[c] = a.staged.classMap[c].getD a.live.classMap[c]) ∧
    ∀ p : PassId,
      b.live.passes[p].max = a.staged.passes[p].max.getD a.live.passes[p].max ∧
      b.live.passes[p].rampUp = a.staged.passes[p].rampUp.getD a.live.passes[p].rampUp ∧
      b.live.passes[p].rampDown = a.staged.passes[p].rampDown.getD a.live.passes[p].rampDown ∧
      b.live.passes[p].safe = cutTo a.staged.passes[p].max (a.staged.passes[p].safe.getD a.live.passes[p].safe)

/-- R102, R103: `b` is the staged record `a` with each flow setting that the items name given its value; a safe value is clamped to
the maximum the same items give for its pass, else to the live one. -/
def settingsStaged (live : FlowSettings) (items : List (Setting × Nat)) (a b : StagedSettings) : Prop :=
  b.residual = (itemValue .residual items).or a.residual ∧ b.fallback = (itemValue .fallback items).or a.fallback ∧
    b.staleLimit = (itemValue .staleLimit items).or a.staleLimit ∧
    b.style = ((itemValue .style items).map fun v => if v = 1 then HoldStyle.keep else .safe).or a.style ∧
    (∀ u : UnitId, b.ratings[u] = (itemValue (.rating u) items).or a.ratings[u]) ∧
    (∀ c : ClassId,
      b.classMap[c] = ((itemValue (.classMap c) items).map fun v => if v = 1 then (1 : Tier) else 0).or a.classMap[c]) ∧
    ∀ p : PassId,
      b.passes[p].max = (itemValue (.passMax p) items).or a.passes[p].max ∧
      b.passes[p].rampUp = (itemValue (.rampUp p) items).or a.passes[p].rampUp ∧
      b.passes[p].rampDown = (itemValue (.rampDown p) items).or a.passes[p].rampDown ∧
      b.passes[p].safe =
        ((itemValue (.safe p) items).map
          (min ((itemValue (.passMax p) items).getD live.passes[p].max))).or a.passes[p].safe

/-- The request carries a body that does not match it (R186). -/
def mismatched : Instr → Bool
  | .openWindow _ b => decide (b = .mismatch)
  | .amendWindow _ b => decide (b = .mismatch)
  | .retireWindow _ b => decide (b = .mismatch)
  | .purge _ b => decide (b = .mismatch)
  | .readWindow _ b => decide (b = .mismatch)
  | .findTag _ b => decide (b = .mismatch)
  | .listWindows _ b => decide (b = .mismatch)
  | .readInterval _ b => decide (b = .mismatch)
  | .readStatus _ b => decide (b = .mismatch)
  | .reportInflow _ b => decide (b = .mismatch)
  | .reportUnits _ b => decide (b = .mismatch)
  | .setBinding _ b => decide (b = .mismatch)
  | .setSettings _ bytes => decide (bytes.length % 4 ≠ 0)
  | .loadRotation _ b => decide (b = .mismatch)
  | .readRotation _ b => decide (b = .mismatch)
  | .setLine _ b => decide (b = .mismatch)
  | .readLines _ b => decide (b = .mismatch)
  | .ackLines _ b => decide (b = .mismatch)
  | .setCondition _ b => decide (b = .mismatch)
  | .setConditionSource _ b => decide (b = .mismatch)
  | .start _ b => decide (b = .mismatch)
  | .stop _ b => decide (b = .mismatch)
  | .holdOn _ b => decide (b = .mismatch)
  | .holdOff _ b => decide (b = .mismatch)
  | .readCauses _ b => decide (b = .mismatch)
  | .ackCauses _ b => decide (b = .mismatch)
  | .setAlertMask _ b => decide (b = .mismatch)
  | .clearTracking _ b => decide (b = .mismatch)
  | .requestFrameEnd _ _ => false
  | .intervalTimerExpiry => false
  | .mark _ => false
  | .lostMarkLimitExpiry => false
  | .holdLineChange _ => false
  | .edgeClaimGrant => false
  | .frameTransmitDone => false
  | .lineEvent _ _ => false
  | .triggerLatch _ => false
  | .scrubStepDue => false
  | .scrubStep => false
  | .fullReset _ => false
  | .leaveReset => false
  | .sensorLineSample _ _ => false
  | .markSample _ _ => false

/-! ### The laws -/

/-- R180, law: ALERT is asserted exactly when RECORD_QUARANTINED is set or some set cause has its enable set. -/
def State.AlertAgrees (s : State) : Prop :=
  s.causes.alert = true ↔
    s.causes.recordQuarantined = true ∨ (∃ c : Sticky, s.hasCause c = true ∧ s.causes.enable[stickyIndex c] = true) ∨
      (s.linePending = true ∧ s.causes.lineEnable = true)

/-- R182: READY is low exactly while a request is in hand or the part is in reset, and the port is IDLE in reset. -/
def State.ReadyAgrees (s : State) : Prop :=
  (s.ready = true ↔ s.inReset = false ∧ s.portFree) ∧ (s.inReset = true → s.port = .idle)

/-- R15: the tag map holds exactly the non-zero tags of the slots that are not FREE, and each tag once (R14). -/
def State.TagMapAgrees (s : State) : Prop :=
  (∀ t i, (t, i) ∈ s.tagMap ↔ t ≠ 0 ∧ ∃ r, s.recordAt i = some r ∧ r.tag = t) ∧ (s.tagMap.map (·.1)).Nodup

/-- R168, law: each bank tracking counter stays within 0 to 255. -/
def State.BanksInRange (s : State) : Prop := ∀ b : BankId, s.banks[b].count ≤ Config.maxTracking

/-- R127, law: each unit is on at most one assignment list, and on it once. -/
def State.UnitsOnce (s : State) : Prop := (s.pause.lists.toList.flatMap fun l => l.map (·.unit)).Nodup

/-- A unit order set names an order only for a unit that is on a list. -/
def ordersHeld (lists : Vector (List Assignment) 64) (units : Vector UnitOrder 12) : Prop :=
  ∀ u : UnitId, units[u].order ≠ none → assigned lists u = true

/-- R139, law: a unit's lines are high only while it is on a list, and never both; the orders of a waiting frame are of
units still on a list (R189). -/
def State.LinesAgree (s : State) : Prop :=
  (∀ u : UnitId, s.pause.lines[u] ≠ .run → assigned s.pause.lists u = true) ∧
    (∀ u : UnitId, ¬(s.pause.lines[u].unload = true ∧ s.pause.lines[u].stop = true)) ∧
    ∀ f units, s.out.waitOrder = some (f, units) → ordersHeld s.pause.lists units

/-- R63, R65, R68: the interval timer runs exactly in RUN under INTERNAL, and the mark window is open exactly in RUN under
FOLLOW; SYNCING, and a hold that began in it, are states of FOLLOW alone. -/
def State.TimerAgrees (s : State) : Prop :=
  (s.time.timerRunning = true ↔ s.time.opState = .run ∧ s.time.source = .internal) ∧
    (s.time.windowOpen = true ↔ s.time.opState = .run ∧ s.time.source = .follow) ∧
    (s.time.opState = .syncing ∨ (∃ e, s.time.opState = .hold .syncing e) → s.time.source = .follow)

/-- The states in which no edge may be outstanding: no edge is raised in them (R68). -/
def OpState.quiet : OpState → Bool
  | .standby => true
  | .syncing => true
  | .run => false
  | .hold .run _ => false
  | .hold .syncing _ => true
  | .hold .starting _ => true

/-- R62: at most one edge claim is presented or held, and none in a state in which no edge is raised. -/
def State.OneEdge (s : State) : Prop :=
  ((∃ k, s.arb.holder = .edge k) → s.arb.waitEdge = none) ∧
    (s.time.opState.quiet = true → s.edgeOutstanding = false)

/-! ### Ranges of the settings and of the inflow (R59, R97, R101, R103, R104) -/

/-- R101, R103: the live settings of a pass. -/
def PassSettings.inRange (x : PassSettings) : Prop :=
  x.max ≤ Config.maxPassFlow ∧ x.rampUp ≤ Config.maxPassFlow ∧ x.rampDown ≤ Config.maxPassFlow ∧ x.safe ≤ x.max

/-- R101. -/
def FlowSettings.inRange (f : FlowSettings) : Prop :=
  f.residual ≤ Config.maxResidual ∧ f.fallback ≤ Config.maxInflow ∧
    (1 ≤ f.staleLimit ∧ f.staleLimit ≤ Config.maxStaleLimit) ∧ (∀ p : PassId, f.passes[p].inRange) ∧
    (∀ u : UnitId, f.ratings[u] ≤ Config.maxRating) ∧ f.classMap[(0 : ClassId)] = 0

/-- A staged value, where there is one, is at most a limit. -/
def atMost (limit : Nat) (v : Option Nat) : Prop := ∀ x, v = some x → x ≤ limit

/-- R101, R103: staged values are in range; a staged safe value without a staged maximum is within the live one. -/
def StagedSettings.inRange (live : FlowSettings) (st : StagedSettings) : Prop :=
  atMost Config.maxResidual st.residual ∧ atMost Config.maxInflow st.fallback ∧
    (∀ x, st.staleLimit = some x → 1 ≤ x ∧ x ≤ Config.maxStaleLimit) ∧
    (∀ p : PassId, atMost Config.maxPassFlow st.passes[p].max ∧ atMost Config.maxPassFlow st.passes[p].rampUp ∧
      atMost Config.maxPassFlow st.passes[p].rampDown ∧
      (st.passes[p].max = .none → atMost live.passes[p].max st.passes[p].safe)) ∧
    (∀ u : UnitId, atMost Config.maxRating st.ratings[u]) ∧
    (∀ t, st.classMap[(0 : ClassId)] = some t → t = 0)

/-- R103: a pass's live and staged manual setpoints are within its live maximum. -/
def PassBinding.within (m : Nat) (b : PassBinding) : Prop := b.setpoint ≤ m ∧ ∀ k v, b.staged = some (k, v) → v ≤ m

/-- The settings, the bindings, the inflow and the interval length stay in the ranges of R59, R97, R98 and R101 to R104, and
nothing is staged in STANDBY (R102, R105). -/
def State.SettingsInRange (s : State) : Prop :=
  s.flow.live.inRange ∧ s.flow.staged.inRange s.flow.live ∧
    (∀ p : PassId, s.flow.bindings[p].within s.flow.live.passes[p].max) ∧
    atMost Config.maxInflow s.flow.heldInflow ∧ s.flow.age ≤ Config.maxAge ∧
    (1 ≤ s.time.lengthMin ∧ s.time.lengthMin ≤ Config.maxLength) ∧
    (s.time.opState = .standby → s.flow.staged = .none ∧ ∀ p : PassId, s.flow.bindings[p].staged = none)

/-! ### Well-formed records (R6, R7, R10, R12) -/

/-- A field present exactly as `p` says, and within a limit where it is. -/
def fieldFits (p : Prop) (limit : Nat) (v : Option Nat) : Prop := (v.isSome = true ↔ p) ∧ atMost limit v

/-- R7, R10: which fields of a body are present for a target, and their ranges. -/
def RecordBody.fits (t : Target) (b : RecordBody) : Prop :=
  fieldFits (t.kind = .passFlow) Config.maxPassFlow b.requestedFlow ∧
    fieldFits (t.kind = .passFlow) Config.maxPassFlow b.servedFlow ∧
    fieldFits (t.kind = .unitPause) 15 b.unloadCount ∧
    fieldFits (t.kind = .unitPause) 12 b.pauseCount ∧
    (∀ n, b.pauseCount = some n → 1 ≤ n ∧ (t ≠ .any → n = 1)) ∧
    (b.triggerLine.isSome = true ↔ b.startMode = .trigger) ∧ (b.triggerSeen.isSome = true ↔ b.startMode = .trigger) ∧
    b.startOffset ≤ 65535 ∧ b.length ≤ 65535 ∧ b.repeats ≤ 255 ∧ b.lead ≤ 65535 ∧ b.runsLeft ≤ 255 ∧
    b.elapsed ≤ Config.maxElapsed

/-- R12, R35: which fields an amendment of a target may carry, and their ranges. -/
def Amendment.fits (t : Target) (a : Amendment) : Prop :=
  (a.requestedFlow.isSome = true → t.kind = .passFlow) ∧ atMost Config.maxPassFlow a.requestedFlow ∧
    (∀ n, a.pauseCount = some n → t = .any ∧ 1 ≤ n ∧ n ≤ 12) ∧
    (a.unloadCount.isSome = true → t.kind = .unitPause) ∧ atMost 15 a.unloadCount ∧
    atMost 65535 a.length ∧ atMost 255 a.repeats ∧ atMost 65535 a.startOffset

/-- R1: the states in which a staged amendment may be held. -/
def Life.mayStage : Life → Bool
  | .staged => false
  | .quarantined => false
  | _ => true

/-- A record as R1, R3, R7, R10 and R12 give it. -/
def Record.fits (r : Record) : Prop :=
  r.body.fits r.target ∧ ∀ a, r.staged = some a → r.life.mayStage = true ∧ a.change.fits r.target

/-- Every record of the table is as the rules of chapter 1 give it. -/
def State.RecordsFit (s : State) : Prop := ∀ i r, s.recordAt i = some r → r.fits

/-- Every law above at once. -/
def State.Sound (s : State) : Prop :=
  s.AlertAgrees ∧ s.ReadyAgrees ∧ s.TagMapAgrees ∧ s.BanksInRange ∧ s.UnitsOnce ∧ s.LinesAgree ∧ s.TimerAgrees ∧
    s.OneEdge ∧ s.SettingsInRange ∧ s.RecordsFit

end Sys2Proof.Machine
end

