-- ==== Sys2Proof/Certificates/Slice0/Obligations.lean ====
section
/-! DEFINITION. The statements for the provers. `s.admission i = .granted` says that the request `i` executes now, whether its frame
was taken in hand before or the table is free (RequestsAreAdmittedOneAtATime says exactly when); `s.edgeGranted k` says
that an edge claim of kind `k` holds the table. `s.holdForRequest` differs from `s` in the arbiter's holder alone, and
`State.answer` ends a request's claim (ReleaseGrantsTheNextClaim). -/

open Sys2Proof Sys2Proof.Machine

/-! ### Steps, the port and the arbiter -/

/-- One step executes the command at the front of the queue on the state with the queue's rest, and idles on an empty
queue (the model's form of a block, notes/assumptions/10.md). -/
def Obligations.StepRunsTheFrontCommand : Prop :=
  (∀ (c : Instr) (rest : List Instr) (s : State),
    step { s with pending := c :: rest } = exec c { s with pending := rest }) ∧
  ∀ s : State, s.pending = [] → step s = .next s

/-- R74, R75, R182: one request is in hand at a time. It executes at once on a free table; it is taken in hand and waits where
the table is held; the one in hand executes once its claim holds the table; any other request is ignored meanwhile. The
two roads of a request's command are the model's (notes/assumptions/11.md). -/
def Obligations.RequestsAreAdmittedOneAtATime : Prop :=
  ∀ (i : Instr) (s : State), isRequest i → s.inReset = false →
    (s.portFree → s.tableFree = true → s.admission i = .granted) ∧
    (s.portFree → s.tableFree = false →
      exec i s =
        .next { s with port := .working (.request i), ready := false, arb := { s.arb with waitRequest := true } }) ∧
    (∀ h, s.port = .working h → h.runs i = true → s.arb.holder = .request → s.admission i = .granted) ∧
    (∀ h, s.port = .working h → h.runs i = true → s.arb.holder ≠ .request → exec i s = .next s) ∧
    (∀ h, s.port = .working h → h.runs i = false → exec i s = .next s)

/-- R75, R182, R183, R186: every request that executes is answered: the response stands in the buffer and READY is high, and no
request touches the receiver, the waiting latches, the latched conditions or the demand set. A body that does not match
what the request carries is refused with BAD_FIELD and nothing changes (that this comes before a check of the operating
state is the model's, notes/assumptions/6.md). -/
def Obligations.ExecutedRequestIsAnswered : Prop :=
  (∀ (i : Instr) (s : State), isRequest i → s.admission i = .granted →
     ∃ t r, exec i s = .next t ∧ t.port = .answered r ∧ t.ready = true ∧ t.inReset = false ∧
       t.receiver = s.receiver ∧ t.latches = s.latches ∧ t.latched = s.latched ∧ t.demand = s.demand ∧
       t.pending = s.pending) ∧
  (∀ (i : Instr) (s : State), s.admission i = .granted → mismatched i = true →
     exec i s = .next (s.holdForRequest.answer ⟨.badField, .empty⟩))

/-- R2, R74, R75: a request's claim ends with its response in the buffer and READY high; the table goes to the edge claim, else
the request's, else the scrub step's; but latches that wait are taken before any claim is granted. -/
def Obligations.ReleaseGrantsTheNextClaim : Prop :=
  ∀ (s : State) (r : Response),
    s.answer r = State.releaseTable { s with port := .answered r, ready := true } ∧
    (s.latches ≠ [] → s.releaseTable = { s with arb := { s.arb with holder := .nobody } }) ∧
    (s.latches = [] →
      (∀ k, s.arb.waitEdge = some k →
        s.releaseTable = { s with arb := { s.arb with holder := .edge k, waitEdge := none } }) ∧
      (s.arb.waitEdge = none → s.arb.waitRequest = true →
        s.releaseTable = { s with arb := { s.arb with holder := .request, waitRequest := false } }) ∧
      (s.arb.waitEdge = none → s.arb.waitRequest = false → s.arb.waitScrub = true →
        s.releaseTable = { s with arb := { s.arb with holder := .scrubber, waitScrub := false } }) ∧
      (s.arb.waitEdge = none → s.arb.waitRequest = false → s.arb.waitScrub = false →
        s.releaseTable = { s with arb := { s.arb with holder := .nobody } }))

/-- R182, R183, R186, 12.5: an intact frame of a known code and issuer is taken in hand with its body, READY falls, and its claim is
granted on a free table and waits otherwise. A frame with an incomplete byte, a length byte outside 2 to 102, another
number of bytes, or a wrong CRC is answered FRAME_ERROR; an intact one with an unknown code UNKNOWN_REQUEST; one with a
wrong issuer byte BAD_FIELD; none of these presents a claim. A frame that ends while a request is in hand is only received,
and a read or an empty select period changes nothing. A frame in hand is run by the command of its code, one for each of the
28, with its issuer, and no other. (That the receiver keeps the frame's bytes after the select period is the model's
choice, notes/assumptions/3.md; so is which fields a body without a stated layout may be run with, notes/assumptions/4.md.) -/
def Obligations.RequestFrameIsCheckedThenTaken : Prop :=
  (∀ (code : Nat) (iss : Issuer) (body : List Byte) (s : State), 1 ≤ code → code ≤ 0x1C → body.length ≤ 100 →
     s.inReset = false → s.portFree →
     (s.tableFree = true →
       exec (.requestFrameEnd (requestFrame code iss body) true) s =
         .next { s with receiver := requestFrame code iss body, port := .working (.frame code iss body), ready := false,
                        arb := { s.arb with holder := .request } }) ∧
     (s.tableFree = false →
       exec (.requestFrameEnd (requestFrame code iss body) true) s =
         .next { s with receiver := requestFrame code iss body, port := .working (.frame code iss body), ready := false,
                        arb := { s.arb with waitRequest := true } })) ∧
  (∀ s : State, s.inReset = false →
     (∀ (b : Byte) (rest : List Byte) (ok : Bool), b ≠ 0 → s.portFree →
       (ok = false ∨ b.toNat < 2 ∨ 102 < b.toNat ∨ (b :: rest).length ≠ b.toNat + 3 ∨
         (b :: rest).drop (b.toNat + 1) ≠ bytes16 (crc16 ((b :: rest).take (b.toNat + 1)))) →
       exec (.requestFrameEnd (b :: rest) ok) s =
         .next { s with receiver := b :: rest, port := .answered ⟨.frameError, .empty⟩, ready := true }) ∧
     (∀ (code issuer : Byte) (body : List Byte), s.portFree → body.length ≤ 100 →
       ((code = 0 ∨ 0x1C < code.toNat) →
         exec (.requestFrameEnd (rawFrame code issuer body) true) s =
           .next { s with receiver := rawFrame code issuer body, port := .answered ⟨.unknownRequest, .empty⟩,
                          ready := true }) ∧
       (code ≠ 0 → code.toNat ≤ 0x1C → 2 < issuer.toNat →
         exec (.requestFrameEnd (rawFrame code issuer body) true) s =
           .next { s with receiver := rawFrame code issuer body, port := .answered ⟨.badField, .empty⟩,
                          ready := true })) ∧
     (∀ (b : Byte) (rest : List Byte) (ok : Bool) (h : InHand), b ≠ 0 → s.port = .working h →
       exec (.requestFrameEnd (b :: rest) ok) s = .next { s with receiver := b :: rest }) ∧
     (∀ (rest : List Byte) (ok : Bool), exec (.requestFrameEnd (0 :: rest) ok) s = .next s) ∧
     (∀ ok : Bool, exec (.requestFrameEnd [] ok) s = .next s)) ∧
  (∀ i j : Instr, (InHand.request j).runs i = true ↔ i = j) ∧
  ∀ (code : Nat) (iss : Issuer) (bytes : List Byte) (h : InHand), h = .frame code iss bytes →
    (∀ j b, h.runs (.openWindow j b) = true ↔ code = 0x01 ∧ j = iss) ∧
    (∀ j b, h.runs (.amendWindow j b) = true ↔ code = 0x02 ∧ j = iss) ∧
    (∀ j b, h.runs (.retireWindow j b) = true ↔ code = 0x03 ∧ j = iss) ∧
    (∀ j b, h.runs (.purge j b) = true ↔ code = 0x04 ∧ j = iss ∧ (b = .fields () ↔ bytes = [])) ∧
    (∀ j b, h.runs (.readWindow j b) = true ↔ code = 0x05 ∧ j = iss) ∧
    (∀ j b, h.runs (.findTag j b) = true ↔ code = 0x06 ∧ j = iss) ∧
    (∀ j b, h.runs (.listWindows j b) = true ↔ code = 0x07 ∧ j = iss) ∧
    (∀ j b, h.runs (.readInterval j b) = true ↔ code = 0x08 ∧ j = iss ∧ (b = .fields () ↔ bytes = [])) ∧
    (∀ j b, h.runs (.readStatus j b) = true ↔ code = 0x09 ∧ j = iss ∧ (b = .fields () ↔ bytes = [])) ∧
    (∀ j b, h.runs (.reportInflow j b) = true ↔ code = 0x0A ∧ j = iss) ∧
    (∀ j b, h.runs (.reportUnits j b) = true ↔ code = 0x0B ∧ j = iss) ∧
    (∀ j b, h.runs (.setBinding j b) = true ↔ code = 0x0C ∧ j = iss) ∧
    (∀ j b, h.runs (.setSettings j b) = true ↔ code = 0x0D ∧ j = iss ∧ b = bytes) ∧
    (∀ j b, h.runs (.loadRotation j b) = true ↔ code = 0x0E ∧ j = iss) ∧
    (∀ j b, h.runs (.readRotation j b) = true ↔ code = 0x0F ∧ j = iss ∧ (b = .fields () ↔ bytes = [])) ∧
    (∀ j b, h.runs (.setLine j b) = true ↔ code = 0x10 ∧ j = iss) ∧
    (∀ j b, h.runs (.readLines j b) = true ↔ code = 0x11 ∧ j = iss ∧ (b = .fields () ↔ bytes = [])) ∧
    (∀ j b, h.runs (.ackLines j b) = true ↔ code = 0x12 ∧ j = iss) ∧
    (∀ j b, h.runs (.setCondition j b) = true ↔ code = 0x13 ∧ j = iss) ∧
    (∀ j b, h.runs (.setConditionSource j b) = true ↔ code = 0x14 ∧ j = iss) ∧
    (∀ j b, h.runs (.start j b) = true ↔ code = 0x15 ∧ j = iss ∧ (b = .fields () ↔ bytes = [])) ∧
    (∀ j b, h.runs (.stop j b) = true ↔ code = 0x16 ∧ j = iss ∧ (b = .fields () ↔ bytes = [])) ∧
    (∀ j b, h.runs (.holdOn j b) = true ↔ code = 0x17 ∧ j = iss ∧ (b = .fields () ↔ bytes = [])) ∧
    (∀ j b, h.runs (.holdOff j b) = true ↔ code = 0x18 ∧ j = iss ∧ (b = .fields () ↔ bytes = [])) ∧
    (∀ j b, h.runs (.readCauses j b) = true ↔ code = 0x19 ∧ j = iss ∧ (b = .fields () ↔ bytes = [])) ∧
    (∀ j b, h.runs (.ackCauses j b) = true ↔ code = 0x1A ∧ j = iss) ∧
    (∀ j b, h.runs (.setAlertMask j b) = true ↔ code = 0x1B ∧ j = iss) ∧
    (∀ j b, h.runs (.clearTracking j b) = true ↔ code = 0x1C ∧ j = iss ∧ (b = .fields () ↔ bytes = [])) ∧
    ∀ i, h.runs i = true → isRequest i

/-- R13, R48, R179, R182, R184, R185, R188, R190, 12.5: the CRC over any bytes followed by their CRC is 0000 hex. An order frame is 28 bytes and 280 bits, its
CRC is intact, and it carries 5A hex, the interval number, the edge kind, the flags and the nine flows at the places of the
layout. A response frame has its length byte, the value of its status, its body of at most 253 bytes and an intact CRC; the
body of a READ_WINDOW answer begins with the directory entry and ends with the amendment and then the list, where it has
them. The handle of FIND_TAG is in OPEN_WINDOW's form, and the cause set of ACK_CAUSES in that of READ_CAUSES, each first in
the longer body. Every byte of a read is 00 hex while no response is held; while one is, its frame is shifted out and then 00 hex.
(The layout of a part is free, the parts follow one another unframed, and those of FIND_TAG and READ_CAUSES in the order in
which their rules name them: the model's choice, notes/assumptions/5.md.) -/
def Obligations.FramesCarryAnIntactCrcAndTheLayout : Prop :=
  (∀ bytes : List Byte, crc16 (withCrc bytes) = 0) ∧
  (∀ f : OrderFrame,
     f.bytes.length = 28 ∧ f.bits.length = 280 ∧ crc16 f.bytes = 0 ∧ f.bytes.getD 0 0 = 0x5A#8 ∧
     (f.bytes.drop 1).take 4 = bytes32 f.interval ∧ f.bytes.getD 5 0 = edgeKindByte f.kind ∧
     ((f.bytes.getD 6 0).getLsbD 7 = f.standby ∧ (f.bytes.getD 6 0).getLsbD 6 = f.hold ∧
       (f.bytes.getD 6 0).getLsbD 5 = f.deficit ∧ (f.bytes.getD 6 0).getLsbD 4 = f.stale ∧
       ∀ n, n < 4 → (f.bytes.getD 6 0).getLsbD n = false) ∧
     ((∀ p : PassId, (f.bytes.getD 7 0).getLsbD p.val = f.forced[p]) ∧ (f.bytes.getD 7 0).getLsbD 6 = false ∧
       (f.bytes.getD 7 0).getLsbD 7 = false) ∧
     (∀ p : PassId, (f.bytes.drop (8 + 2 * p.val)).take 2 = flowBytes f.setpoints[p]) ∧
     (f.bytes.drop 20).take 2 = flowBytes f.tt ∧ (f.bytes.drop 22).take 2 = flowBytes f.spill ∧
     (f.bytes.drop 24).take 2 = flowBytes f.qUsed) ∧
  (∀ r : Response,
     r.body.bytes.length ≤ 253 ∧ (r.body = .empty → r.body.bytes = []) ∧ r.frame.length = r.body.bytes.length + 4 ∧
     (r.frame.getD 0 0).toNat = r.body.bytes.length + 1 ∧ r.frame.getD 1 0 = statusByte r.status ∧
     (r.frame.drop 2).take r.body.bytes.length = r.body.bytes ∧ crc16 r.frame = 0) ∧
  ([.ok, .okClamped, .badField, .staleHandle, .tableFull, .dupTag, .notPermitted, .retiring, .immutable, .quarantined,
    .wrongMode, .noSuch, .frameError, .unknownRequest] : List Status).map statusByte =
    [0x00, 0x01, 0x02, 0x03, 0x04, 0x05, 0x06, 0x07, 0x08, 0x09, 0x0A, 0x0B, 0x0C, 0x0D] ∧
  (∀ (dir : DirectoryEntry) (b : RecordBody) (a : Option Amendment) (l : Option (List Assignment)),
     (ResponseBody.directory dir).bytes <+: (ResponseBody.window dir b none none).bytes ∧
     (ResponseBody.window dir b none none).bytes <+: (ResponseBody.window dir b a none).bytes ∧
     (ResponseBody.window dir b a none).bytes <+: (ResponseBody.window dir b a l).bytes) ∧
  (∀ (h : Handle) (st : SlotState), (ResponseBody.handle h).bytes <+: (ResponseBody.found h st).bytes) ∧
  (∀ (sticky : Vector Bool 12) (q line : Bool) (enable : Vector Bool 12) (lineEnable : Bool),
     (ResponseBody.causeSet sticky q line).bytes <+: (ResponseBody.causes sticky q line enable lineEnable).bytes) ∧
  (∀ (s : State) (n : Nat),
     ((∀ r, s.port ≠ .answered r) → s.readByte n = 0) ∧
     ∀ r, s.port = .answered r →
       (n < r.frame.length → some (s.readByte n) = r.frame[n]?) ∧ (r.frame.length ≤ n → s.readByte n = 0))

/-! ### The window table's requests -/

/-- R28 to R31: an accepted OPEN_WINDOW writes the lowest-numbered FREE slot whole and enters a non-zero tag in the map; the
requested flow is clamped to the pass's live maximum, and the answer is OK_CLAMPED where the clamp acts. Nothing else
changes. -/
def Obligations.OpenWindowWritesTheLowestFreeSlot : Prop :=
  (∀ (s : State) (p : PassId), s.flowLimit (.pass p) = s.flow.live.passes[p].max) ∧
  (∀ (limit : Nat) (v : Option Nat), flowClamped limit v = true ↔ ∃ n, v = some n ∧ limit < n) ∧
  ∀ (iss : Issuer) (f : OpenFields) (t : Target) (b : RecordBody) (i : SlotId) (s : State),
    s.admission (.openWindow iss (.fields f)) = .granted → checkOpen f = some (t, b) →
    (f.cls ≤ 1 → iss = .authority) → (f.tag ≠ 0 → ∀ j, (f.tag, j) ∉ s.tagMap) →
    s.recordAt i = none → (∀ j : SlotId, j < i → s.recordAt j ≠ none) →
    exec (.openWindow iss (.fields f)) s =
      .next
        (State.answer
          { status := if flowClamped (s.flowLimit t) b.requestedFlow then .okClamped else .ok
            body := .handle { slot := i, generation := s.slots[i].generation } }
          { s.holdForRequest with
            slots := s.slots.set i
              { generation := s.slots[i].generation
                record := some
                  { life := .staged, owner := iss, tag := f.tag, target := t, retirePending := false,
                    body := { b with requestedFlow := b.requestedFlow.map (min (s.flowLimit t)) }, check := .clean,
                    staged := none } }
            tagMap := if f.tag = 0 then s.tagMap else (f.tag, i) :: s.tagMap })

/-- R27: the first check that fails is answered: a structural fault, the right to classes 0 and 1, a tag in the map, a full
table; and a refused OPEN_WINDOW changes nothing. -/
def Obligations.OpenWindowAnswersTheFirstFailingCheck : Prop :=
  ∀ (iss : Issuer) (f : OpenFields) (s : State), s.admission (.openWindow iss (.fields f)) = .granted →
    (checkOpen f = none →
      exec (.openWindow iss (.fields f)) s = .next (s.holdForRequest.answer ⟨.badField, .empty⟩)) ∧
    (checkOpen f ≠ none → f.cls ≤ 1 → iss ≠ .authority →
      exec (.openWindow iss (.fields f)) s = .next (s.holdForRequest.answer ⟨.notPermitted, .empty⟩)) ∧
    (checkOpen f ≠ none → (f.cls ≤ 1 → iss = .authority) → f.tag ≠ 0 → (∃ j, (f.tag, j) ∈ s.tagMap) →
      exec (.openWindow iss (.fields f)) s = .next (s.holdForRequest.answer ⟨.dupTag, .empty⟩)) ∧
    (checkOpen f ≠ none → (f.cls ≤ 1 → iss = .authority) → (f.tag ≠ 0 → ∀ j, (f.tag, j) ∉ s.tagMap) →
      (∀ j, s.recordAt j ≠ none) →
      exec (.openWindow iss (.fields f)) s = .next (s.holdForRequest.answer ⟨.tableFull, .empty⟩))

/-- R7, R10, R26, R29: the fields pass the structural check exactly when none of the faults of the table is there; the target is
then the one given, and the body holds the settings given (pause_count 1 with FIXED) and the runtime values at open, each
field present exactly where the kind, the target and the start mode give it. -/
def Obligations.OpenWindowAcceptsExactlySoundFields : Prop :=
  ∀ f : OpenFields,
    ((checkOpen f).isSome = true ↔
      f.cls ≤ 7 ∧
      (∀ g, f.guard = some g → g.sound) ∧
      ((f.startMode = some .immediate ∧ f.triggerLine = none) ∨
        (f.startMode = some .trigger ∧ ∃ n, n ≤ 7 ∧ f.triggerLine = some n)) ∧
      ((f.kind = some .passFlow ∧ (∃ p, p ≤ 5 ∧ f.target = .pass p) ∧ f.requestedFlow.isSome = true ∧
          f.pauseCount = none ∧ f.unloadCount = none) ∨
        (f.kind = some .unitPause ∧ f.requestedFlow = none ∧ (∃ n, n ≤ 15 ∧ f.unloadCount = some n) ∧
          ((∃ u, u ≤ 11 ∧ f.target = .fixed u ∧ (f.pauseCount = none ∨ f.pauseCount = some 1)) ∨
            (f.target = .any ∧ ∃ n, 1 ≤ n ∧ n ≤ 12 ∧ f.pauseCount = some n))))) ∧
    ∀ t b, checkOpen f = some (t, b) →
      f.kind = some t.kind ∧ f.target = t.raw ∧ f.guard = b.guard.map Guard.raw ∧
      (∀ p, t = .pass p → b.pauseCount = none) ∧ (∀ u, t = .fixed u → b.pauseCount = some 1) ∧
      (t = .any → b.pauseCount = f.pauseCount) ∧
      b.cls.val = f.cls ∧ b.requestedFlow = f.requestedFlow.map (·.toNat) ∧ b.unloadCount = f.unloadCount ∧
      b.startOffset = f.startOffset.toNat ∧ b.length = f.length.toNat ∧ b.repeats = f.repeats.toNat ∧
      b.autoRelease = f.autoRelease ∧ some b.startMode = f.startMode ∧ b.triggerLine.map (·.val) = f.triggerLine ∧
      b.lead = 0 ∧ b.elapsed = 0 ∧ b.runsLeft = 0 ∧
      b.triggerSeen = (if b.startMode = .trigger then some false else none) ∧
      b.servedFlow = (if t.kind = .passFlow then some 0 else none)

/-- R30, R36, R167, R168, R170: an accepted amendment of a STAGED record is written into its body at once, requested_flow
clamped; a body that cannot be corrected makes the record QUARANTINED instead. The read's correction is counted in the slot's
bank. No other slot changes, and the generation and the tag map stay. What is written is each present field in place of its setting; the runtime fields are kept. -/
def Obligations.AmendmentOfAStagedRecordIsWrittenAtOnce : Prop :=
  (∀ (a : Amendment) (b : RecordBody), a.writes b (b.write a)) ∧
  ∀ (iss : Issuer) (f : AmendFields) (h : Handle) (r : Record) (a : Amendment) (s : State),
    s.admission (.amendWindow iss (.fields f)) = .granted → checkHandle f.handle = some h → s.recordOf h = some r →
    r.life = .staged → (iss = r.owner ∨ iss = .authority) → (namesTopClass f = true → iss = .authority) →
    r.retirePending = false → f.immutable = [] → checkAmend r.target f = some a →
    (r.check ≠ .uncorrectable →
      ∃ t, exec (.amendWindow iss (.fields f)) s = .next t ∧
        t.port = .answered
          { status := if flowClamped (s.flowLimit r.target) a.requestedFlow then .okClamped else .ok
            body := .amended h .applied } ∧
        t.recordAt h.slot =
          some
            { r with
              body := r.body.write { a with requestedFlow := a.requestedFlow.map (min (s.flowLimit r.target)) }
              check := .clean } ∧
        t.slots[h.slot].generation = s.slots[h.slot].generation ∧
        t.banks = (State.countFixes h.slot (if r.check = .singleBit then 1 else 0) s).banks ∧
        t.hasCause .fixOverflow =
          (State.countFixes h.slot (if r.check = .singleBit then 1 else 0) s).hasCause .fixOverflow ∧
        (∀ c, c ≠ .fixOverflow → t.hasCause c = s.hasCause c) ∧
        t.causes.recordQuarantined = s.causes.recordQuarantined ∧
        (∀ j, j ≠ h.slot → t.slots[j] = s.slots[j]) ∧
        t = { s with port := t.port, ready := t.ready, arb := t.arb, slots := t.slots, banks := t.banks, causes := t.causes }) ∧
    (r.check = .uncorrectable →
      ∃ t, exec (.amendWindow iss (.fields f)) s = .next t ∧ t.port = .answered ⟨.quarantined, .empty⟩ ∧
        t.recordAt h.slot = some { r with life := .quarantined, staged := none } ∧
        t.slots[h.slot].generation = s.slots[h.slot].generation ∧
        t.causes.recordQuarantined = true ∧ t.banks = s.banks ∧ (∀ c, t.hasCause c = s.hasCause c) ∧
        (∀ j, j ≠ h.slot → t.slots[j] = s.slots[j]) ∧
        t = { s with port := t.port, ready := t.ready, arb := t.arb, slots := t.slots, banks := t.banks, causes := t.causes })

/-- R12, R30, R37, R171: an accepted amendment of a live record is held beside its body, which does not change: alone where none was
held or the one held is lost, and merged into the one held otherwise. A merge replaces the fields named and keeps the
others; a correction made by its read is counted. -/
def Obligations.AmendmentOfALiveRecordIsHeld : Prop :=
  (∀ new old : Amendment, new.merges old (new.mergeInto old)) ∧
  ∀ (iss : Issuer) (f : AmendFields) (h : Handle) (r : Record) (a : Amendment) (s : State),
    s.admission (.amendWindow iss (.fields f)) = .granted → checkHandle f.handle = some h → s.recordOf h = some r →
    r.life.mayStage = true → (iss = r.owner ∨ iss = .authority) → (namesTopClass f = true → iss = .authority) →
    r.retirePending = false → f.immutable = [] → (f.startOffset ≠ none → startOffsetFixed r.life = false) →
    checkAmend r.target f = some a →
    ∃ t, exec (.amendWindow iss (.fields f)) s = .next t ∧
      t.port = .answered
        { status := if flowClamped (s.flowLimit r.target) a.requestedFlow then .okClamped else .ok
          body := .amended h .held } ∧
      (∀ j, j ≠ h.slot → t.slots[j] = s.slots[j]) ∧
      t = { s with port := t.port, ready := t.ready, arb := t.arb, slots := t.slots, banks := t.banks, causes := t.causes } ∧
      ((r.staged = none ∨ ∃ x, r.staged = some x ∧ x.check = .uncorrectable) →
        t.recordAt h.slot =
          some { r with staged := some ⟨{ a with requestedFlow := a.requestedFlow.map (min (s.flowLimit r.target)) }, .clean⟩ }) ∧
      (∀ x, r.staged = some x → x.check ≠ .uncorrectable →
        t.recordAt h.slot =
          some
            { r with
              staged := some
                ⟨Amendment.mergeInto { a with requestedFlow := a.requestedFlow.map (min (s.flowLimit r.target)) } x.change,
                  .clean⟩ }) ∧
      (∀ x, r.staged = some x → x.check = .uncorrectable → t.hasCause .stageLost = true) ∧
      t.banks =
        (State.countFixes h.slot (if r.staged.map (·.check) = some .singleBit then 1 else 0) s).banks ∧
      t.hasCause .fixOverflow =
        (State.countFixes h.slot (if r.staged.map (·.check) = some .singleBit then 1 else 0) s).hasCause .fixOverflow ∧
      t.slots[h.slot].generation = s.slots[h.slot].generation

/-- R33, R34, R35: AMEND_WINDOW answers the first of its checks that fails, and then changes nothing. Check 7 passes exactly
where a field is named, each named field is present for the record and in range, and the body matches its fields (R186);
the amendment then holds the values named and no others. start_offset is fixed in ACTIVE, SUSPENDED and ENDED. (That a body
whose content does not match fails check 7 where its handle can be read, and check 1 where it cannot, is the model's choice,
notes/assumptions/4.md, read from R186 and R33, notes/assumptions/6.md.) -/
def Obligations.AmendWindowAnswersTheFirstFailingCheck : Prop :=
  (∀ (t : Target) (f : AmendFields),
     ((checkAmend t f).isSome = true ↔ f.sound t) ∧ ∀ a, checkAmend t f = some a → f.names a) ∧
  (∀ l : Life, startOffsetFixed l = true ↔ l = .active ∨ l = .suspended ∨ l = .ended) ∧
  (∀ f : AmendFields, namesTopClass f = true ↔ ∃ c, f.cls = some c ∧ c ≤ 1) ∧
  (∀ x : RawHandle,
     (checkHandle x = none ↔ 63 < x.slot ∨ 15 < x.generation) ∧
     ∀ h, checkHandle x = some h → h.slot.val = x.slot ∧ h.generation.toNat = x.generation) ∧
  (∀ (h : Handle) (s : State) (r : Record),
     s.recordOf h = some r ↔ s.recordAt h.slot = some r ∧ s.slots[h.slot].generation = h.generation) ∧
  (∀ (iss : Issuer) (s : State), s.admission (.amendWindow iss .mismatch) = .granted →
     exec (.amendWindow iss .mismatch) s = .next (s.holdForRequest.answer ⟨.badField, .empty⟩)) ∧
  ∀ (iss : Issuer) (f : AmendFields) (s : State), s.admission (.amendWindow iss (.fields f)) = .granted →
    (checkHandle f.handle = none →
      exec (.amendWindow iss (.fields f)) s = .next (s.holdForRequest.answer ⟨.badField, .empty⟩)) ∧
    ∀ h, checkHandle f.handle = some h →
      (s.recordOf h = none →
        exec (.amendWindow iss (.fields f)) s = .next (s.holdForRequest.answer ⟨.staleHandle, .empty⟩)) ∧
      ∀ r, s.recordOf h = some r →
        ((iss ≠ r.owner ∧ iss ≠ .authority ∨ namesTopClass f = true ∧ iss ≠ .authority) →
          exec (.amendWindow iss (.fields f)) s = .next (s.holdForRequest.answer ⟨.notPermitted, .empty⟩)) ∧
        ((iss = r.owner ∨ iss = .authority) → (namesTopClass f = true → iss = .authority) →
          (r.retirePending = true →
            exec (.amendWindow iss (.fields f)) s = .next (s.holdForRequest.answer ⟨.retiring, .empty⟩)) ∧
          (r.retirePending = false → r.life = .quarantined →
            exec (.amendWindow iss (.fields f)) s = .next (s.holdForRequest.answer ⟨.quarantined, .empty⟩)) ∧
          (r.retirePending = false → r.life ≠ .quarantined →
            (f.immutable ≠ [] ∨ f.startOffset ≠ none ∧ startOffsetFixed r.life = true) →
            exec (.amendWindow iss (.fields f)) s = .next (s.holdForRequest.answer ⟨.immutable, .empty⟩)) ∧
          (r.retirePending = false → r.life ≠ .quarantined → f.immutable = [] →
            (f.startOffset ≠ none → startOffsetFixed r.life = false) → checkAmend r.target f = none →
            exec (.amendWindow iss (.fields f)) s = .next (s.holdForRequest.answer ⟨.badField, .empty⟩)))

/-- R5, R23, R41 to R43, R46: RETIRE_WINDOW frees a STAGED or ENDED record at once, generation advanced and tag out of the map; any
other gets retire_pending; the first failing check is answered with nothing changed. PURGE in STANDBY frees every slot, those
already FREE included, and empties the tag map; elsewhere it is refused with WRONG_MODE. -/
def Obligations.RetireAndPurgeFreeSlots : Prop :=
  (∀ (iss : Issuer) (x : RawHandle) (s : State), s.admission (.retireWindow iss (.fields x)) = .granted →
     (checkHandle x = none →
       exec (.retireWindow iss (.fields x)) s = .next (s.holdForRequest.answer ⟨.badField, .empty⟩)) ∧
     ∀ h, checkHandle x = some h →
       (s.recordOf h = none →
         exec (.retireWindow iss (.fields x)) s = .next (s.holdForRequest.answer ⟨.staleHandle, .empty⟩)) ∧
       ∀ r, s.recordOf h = some r →
         (iss ≠ r.owner → iss ≠ .authority →
           exec (.retireWindow iss (.fields x)) s = .next (s.holdForRequest.answer ⟨.notPermitted, .empty⟩)) ∧
         ((iss = r.owner ∨ iss = .authority) →
           (r.retirePending = true →
             exec (.retireWindow iss (.fields x)) s = .next (s.holdForRequest.answer ⟨.retiring, .empty⟩)) ∧
           (r.retirePending = false → (r.life = .staged ∨ r.life = .ended) →
             exec (.retireWindow iss (.fields x)) s =
               .next
                 (State.answer ⟨.ok, .retired h .freed⟩
                   { s.holdForRequest with
                     slots := s.slots.set h.slot { generation := s.slots[h.slot].generation + 1, record := none }
                     tagMap := s.tagMap.filter fun e => e.2 ≠ h.slot })) ∧
           (r.retirePending = false → r.life ≠ .staged → r.life ≠ .ended →
             exec (.retireWindow iss (.fields x)) s =
               .next
                 (State.answer ⟨.ok, .retired h .atEdge⟩
                   { s.holdForRequest with
                     slots := s.slots.set h.slot
                       { generation := s.slots[h.slot].generation
                         record := some { r with retirePending := true } } })))) ∧
  (∀ (iss : Issuer) (s : State), s.admission (.purge iss (.fields ())) = .granted →
     (s.time.opState = .standby →
       exec (.purge iss (.fields ())) s =
         .next
           (State.answer ⟨.ok, .empty⟩
             { s.holdForRequest with
               slots := Vector.ofFn fun i : Fin 64 => { generation := s.slots[i].generation + 1, record := none }
               tagMap := [] })) ∧
     (s.time.opState ≠ .standby →
       exec (.purge iss (.fields ())) s = .next (s.holdForRequest.answer ⟨.wrongMode, .empty⟩)))

/-- R13, R47, R48, R50 to R52, R167, R168, R170, R171: READ_WINDOW refuses a handle out of range and a stale one, and reads the
body and then the amendment through the check. A correction of either is written back and counted in the slot's bank; a
lost amendment is dropped, with STAGE_LOST set; the answer is OK with what the reads leave, the assignment list for
UNIT_PAUSE. A lost body makes the record QUARANTINED, and a QUARANTINED record's directory entry alone is returned. -/
def Obligations.ReadWindowReadsThroughTheCheck : Prop :=
  (∀ (iss : Issuer) (x : RawHandle) (s : State), s.admission (.readWindow iss (.fields x)) = .granted →
     ((63 < x.slot ∨ 15 < x.generation) →
       exec (.readWindow iss (.fields x)) s = .next (s.holdForRequest.answer ⟨.badField, .empty⟩)) ∧
     ∀ h, checkHandle x = some h → s.recordOf h = none →
       exec (.readWindow iss (.fields x)) s = .next (s.holdForRequest.answer ⟨.staleHandle, .empty⟩)) ∧
  ∀ (iss : Issuer) (x : RawHandle) (h : Handle) (r : Record) (s : State),
    s.admission (.readWindow iss (.fields x)) = .granted → checkHandle x = some h → s.recordOf h = some r →
    ∃ t, exec (.readWindow iss (.fields x)) s = .next t ∧ (∀ j, j ≠ h.slot → t.slots[j] = s.slots[j]) ∧
      t.slots[h.slot].generation = s.slots[h.slot].generation ∧
      t = { s with port := t.port, ready := t.ready, arb := t.arb, slots := t.slots, banks := t.banks,
                   causes := t.causes } ∧
      (r.life = .quarantined →
        t.slots = s.slots ∧ t.port = .answered ⟨.quarantined, .directory (r.entry h.generation)⟩) ∧
      (r.life ≠ .quarantined → r.check = .uncorrectable →
        t.recordAt h.slot = some { r with life := .quarantined, staged := none } ∧ t.banks = s.banks ∧
        t.causes.recordQuarantined = true ∧
        t.port = .answered
          ⟨.quarantined, .directory (Record.entry h.generation { r with life := .quarantined, staged := none })⟩) ∧
      (r.life ≠ .quarantined → r.check = .clean → (∀ y, r.staged = some y → y.check = .clean) →
        t.slots = s.slots ∧ t.banks = s.banks) ∧
      (r.life ≠ .quarantined → r.check ≠ .uncorrectable →
        t.recordAt h.slot = some { r with check := .clean, staged := r.stagedRead } ∧
        t.banks = (State.countFixes h.slot r.corrections s).banks ∧
        t.hasCause .fixOverflow = (State.countFixes h.slot r.corrections s).hasCause .fixOverflow ∧
        (∀ y, r.staged = some y → y.check = .uncorrectable → t.hasCause .stageLost = true) ∧
        t.port = .answered
          ⟨.ok, .window (Record.entry h.generation { r with staged := r.stagedRead }) r.body
            (r.stagedRead.map (·.change))
            (if r.target.kind = .passFlow then none else some s.pause.lists[h.slot])⟩)

/-- R15, R19, R53, R57, R123, R138, R150, R160, R178: the lookups answer what the state holds and change nothing. With the tag map in
agreement with the slots, FIND_TAG answers the handle and state of the record that holds the tag, and NO_SUCH where none
does. READ_STATUS gives the state, the interval number, the last edge, the hold context (origin and entry in HOLD alone),
the number of slots in each of the eight states, which total 64, the inflow age and load pending. -/
def Obligations.LookupsAnswerAndChangeNothing : Prop :=
  (∀ s : State,
     s.statusReport.interval = s.time.interval ∧ s.statusReport.lastEdge = s.time.lastEdge ∧
     s.statusReport.age = s.flow.age ∧ s.statusReport.loadPending = s.pause.loadPending ∧
     (s.statusReport.state = .standby ↔ s.time.opState = .standby) ∧
     (s.statusReport.state = .syncing ↔ s.time.opState = .syncing) ∧
     (s.statusReport.state = .run ↔ s.time.opState = .run) ∧
     (∀ o e, s.time.opState = .hold o e →
       s.statusReport.state = .hold ∧ s.statusReport.hold.origin = some o ∧ s.statusReport.hold.entry = some e) ∧
     ((∀ o e, s.time.opState ≠ .hold o e) →
       s.statusReport.hold.origin = none ∧ s.statusReport.hold.entry = none) ∧
     s.statusReport.hold.lineHolding = s.time.holdLine.level ∧ s.statusReport.hold.flagHolding = s.time.hostHold ∧
     s.statusReport.counts.map (·.1) =
       [.free, .staged, .armed, .pending, .active, .suspended, .ended, .quarantined] ∧
     (s.statusReport.counts.map (·.2)).sum = 64 ∧
     (∀ n, (SlotState.free, n) ∈ s.statusReport.counts →
       n = ((indices 64).filter fun i => (s.recordAt i).isNone).length) ∧
     ∀ (l : Life) n, (l.toSlotState, n) ∈ s.statusReport.counts →
       n = ((indices 64).filter fun i => (s.recordAt i).map (·.life) = some l).length) ∧
  (∀ (iss : Issuer) (s : State),
     (s.admission (.readStatus iss (.fields ())) = .granted →
       exec (.readStatus iss (.fields ())) s = .next (s.holdForRequest.answer ⟨.ok, .status s.statusReport⟩)) ∧
     (s.admission (.readInterval iss (.fields ())) = .granted →
       (∀ r, s.flow.record = some r →
         exec (.readInterval iss (.fields ())) s = .next (s.holdForRequest.answer ⟨.ok, .interval r⟩)) ∧
       (s.flow.record = none →
         exec (.readInterval iss (.fields ())) s = .next (s.holdForRequest.answer ⟨.noSuch, .empty⟩))) ∧
     (s.admission (.readRotation iss (.fields ())) = .granted →
       exec (.readRotation iss (.fields ())) s =
         .next (s.holdForRequest.answer
           ⟨.ok, .rotation s.pause.live s.pause.shadow s.pause.pointer s.pause.loadPending⟩)) ∧
     (s.admission (.readLines iss (.fields ())) = .granted →
       exec (.readLines iss (.fields ())) s =
         .next (s.holdForRequest.answer
           ⟨.ok, .lines
             (mapTable (fun _ l =>
               { mode := l.mode, enable := l.enable, base := l.base, prescale := l.prescale, level := l.filter.level,
                 pending := l.pending }) s.sensors)
             (mapTable (fun _ c =>
               { hostValue := c.hostValue, source := c.source, current := currentValue s.sensors c }) s.conditions)⟩)) ∧
     (s.admission (.readCauses iss (.fields ())) = .granted →
       exec (.readCauses iss (.fields ())) s =
         .next (s.holdForRequest.answer
           ⟨.ok, .causes s.causes.sticky s.causes.recordQuarantined s.linePending s.causes.enable
             s.causes.lineEnable⟩))) ∧
  (∀ (iss : Issuer) (t : BitVec 16) (s : State), s.admission (.findTag iss (.fields t)) = .granted → s.TagMapAgrees →
     (∀ i r, t ≠ 0 → s.recordAt i = some r → r.tag = t →
       exec (.findTag iss (.fields t)) s =
         .next (s.holdForRequest.answer
           ⟨.ok, .found { slot := i, generation := s.slots[i].generation } r.life.toSlotState⟩)) ∧
     ((t = 0 ∨ ∀ i r, s.recordAt i = some r → r.tag ≠ t) →
       exec (.findTag iss (.fields t)) s = .next (s.holdForRequest.answer ⟨.noSuch, .empty⟩)))

/-- R54, R55: LIST_WINDOWS refuses an empty set of states, a value outside those a part may have and a cursor above 64. Else it
answers exactly the slots that match the filter from the cursor to the next cursor, in slot order, at most eight; the next
cursor is the slot after the eighth match, or 64 where there are fewer. A FREE slot matches no part that names a kind, a
target or an owner. It changes nothing. -/
def Obligations.ListWindowsMissesNoMatch : Prop :=
  ∀ (iss : Issuer) (f : ListFields) (s : State), s.admission (.listWindows iss (.fields f)) = .granted →
    (f.faulty →
      exec (.listWindows iss (.fields f)) s = .next (s.holdForRequest.answer ⟨.badField, .empty⟩)) ∧
    (¬f.faulty →
      ∃ found next,
        exec (.listWindows iss (.fields f)) s = .next (s.holdForRequest.answer ⟨.ok, .list found next⟩) ∧
        found.length ≤ 8 ∧ f.cursor ≤ next ∧ next ≤ 64 ∧ (next < 64 → found.length = 8) ∧
        (∀ e, found.length = 8 → found.getLast? = some e → next = e.1.slot.val + 1) ∧
        (found.map (·.1.slot)).Pairwise (· < ·) ∧
        ∀ e, e ∈ found ↔
          ∃ i : SlotId, f.cursor ≤ i.val ∧ i.val < next ∧ f.wants s.slots[i] ∧
            e = ({ slot := i, generation := s.slots[i].generation },
              match s.recordAt i with
              | none => .free
              | some r => r.life.toSlotState))

/-! ### The edge: its grant and the walk over the slots -/

/-- R61, R77, R78, R99, R100, R122, R154: a granted edge opens an interval. The interval number, the last edge kind, the latched
conditions, the inflow age, Q_used and the interval record follow the rules; INFLOW_STALE is set with the fallback. The
port, the sensor block, the scrubber and the waiting latches are as they were. With no edge claim held nothing happens (the
model's choice, notes/assumptions/11.md). -/
def Obligations.EdgeOpensAnInterval : Prop :=
  ∀ s : State,
    (∀ k, s.edgeGranted k →
      ∃ t r d, exec .edgeClaimGrant s = .next t ∧ t.flow.record = some r ∧ t.demand = some d ∧
        t.time.interval = (if k = .start then 1 else s.time.interval + 1) ∧ t.time.lastEdge = some k ∧
        r.interval = t.time.interval ∧ r.kind = k ∧ d.interval = t.time.interval ∧ d.kind = k ∧
        t.latched[(0 : CondId)] = decide (k = .holdEntry) ∧
        (∀ c : Fin 7,
          (s.conditions[c].source = .host → t.latched[c.succ] = s.conditions[c].hostValue) ∧
          ∀ m inverted, s.conditions[c].source = .line m inverted →
            t.latched[c.succ] = (s.sensors[m].filter.level != inverted)) ∧
        t.flow.age = (if s.flow.reportMarker then 0 else min (s.flow.age + 1) 255) ∧ t.flow.reportMarker = false ∧
        t.flow.heldInflow = s.flow.heldInflow ∧ r.age = t.flow.age ∧
        (∀ q, s.flow.heldInflow = some q → t.flow.age < t.flow.live.staleLimit →
          r.qUsed = q ∧ r.fallbackUsed = false ∧ t.flow.fallbackFlag = false) ∧
        (s.flow.heldInflow = none ∨ t.flow.live.staleLimit ≤ t.flow.age →
          r.qUsed = t.flow.live.fallback ∧ r.fallbackUsed = true ∧ t.flow.fallbackFlag = true ∧
          t.hasCause .inflowStale = true) ∧
        t.causes.enable = s.causes.enable ∧ t.causes.lineEnable = s.causes.lineEnable ∧
        (∀ c, s.hasCause c = true → t.hasCause c = true) ∧
        t.hasCause .inflowStale = (s.hasCause .inflowStale || r.fallbackUsed) ∧
        (∀ c ∈ [Sticky.restart, .markLost, .earlyMark], t.hasCause c = s.hasCause c) ∧
        t = { s with arb := t.arb, slots := t.slots, tagMap := t.tagMap, time := t.time, latched := t.latched,
                     demand := t.demand, flow := t.flow, pause := t.pause, out := t.out, banks := t.banks,
                     causes := t.causes }) ∧
    (s.inReset = false → (∀ k, s.arb.holder ≠ .edge k) → exec .edgeClaimGrant s = .next s)

/-- R102, R103, R106, R110: a granted edge makes the staged settings live with their cuts, and settles each pass's binding: a
staged binding first, else the reversion of a used pulse; the pulse marker of every MANUAL_PULSE pass is yes after it. -/
def Obligations.EdgeTakesStagedSettingsAndBindings : Prop :=
  ∀ (k : EdgeKind) (s : State), s.edgeGranted k →
    ∃ t, exec .edgeClaimGrant s = .next t ∧ settingsTaken s.flow t.flow ∧
      ∀ p : PassId,
        t.flow.bindings[p].staged = none ∧
        (∀ b v, s.flow.bindings[p].staged = some (b, v) →
          t.flow.bindings[p].live = b ∧ t.flow.bindings[p].setpoint = cutTo s.flow.staged.passes[p].max v ∧
          t.flow.bindings[p].pulse = decide (b = .manualPulse)) ∧
        (s.flow.bindings[p].staged = none →
          t.flow.bindings[p].setpoint = cutTo s.flow.staged.passes[p].max s.flow.bindings[p].setpoint ∧
          (s.flow.bindings[p].live = .manualPulse → s.flow.bindings[p].pulse = true →
            t.flow.bindings[p].live = .scheduled ∧ t.flow.bindings[p].pulse = false) ∧
          (s.flow.bindings[p].live = .manualPulse → s.flow.bindings[p].pulse = false →
            t.flow.bindings[p].live = .manualPulse ∧ t.flow.bindings[p].pulse = true) ∧
          (s.flow.bindings[p].live ≠ .manualPulse →
            t.flow.bindings[p].live = s.flow.bindings[p].live ∧ t.flow.bindings[p].pulse = s.flow.bindings[p].pulse))

/-- R80, R81, R90, R170: the edge pass frees a slot with retire_pending, generation advanced, whatever its state and without a
read; it leaves a FREE slot and a QUARANTINED one as they are; it makes a slot whose body cannot be corrected QUARANTINED,
its amendment discarded; and the tag map keeps exactly the entries of slots that still hold a record. -/
def Obligations.EdgeFreesRetiredAndKeepsQuarantinedSlots : Prop :=
  ∀ (k : EdgeKind) (s : State), s.edgeGranted k →
    ∃ t, exec .edgeClaimGrant s = .next t ∧
      (∀ i, s.recordAt i = none → t.slots[i] = s.slots[i]) ∧
      (∀ i r, s.recordAt i = some r → r.retirePending = true →
        t.slots[i] = { generation := s.slots[i].generation + 1, record := none }) ∧
      (∀ i r, s.recordAt i = some r → r.retirePending = false → r.life = .quarantined →
        t.slots[i] = s.slots[i]) ∧
      (∀ i r, s.recordAt i = some r → r.retirePending = false → r.life ≠ .quarantined → r.check = .uncorrectable →
        t.slots[i] =
          { generation := s.slots[i].generation, record := some { r with life := .quarantined, staged := none } } ∧
        t.causes.recordQuarantined = true) ∧
      t.tagMap = s.tagMap.filter fun e => (t.recordAt e.2).isSome

/-- R39, R80, R82, R171: the edge pass acts on a record with an amendment staged as on the record with the amendment written
into its body, runs_left loaded from a staged repeat unless the record is ENDED and lead from a staged start_offset; a lost
amendment is dropped, with STAGE_LOST set. -/
def Obligations.EdgeAppliesTheStagedAmendmentFirst : Prop :=
  ∀ (k : EdgeKind) (i : SlotId) (r : Record) (x : Staged) (s : State), s.edgeGranted k → s.recordAt i = some r →
    r.retirePending = false → r.life ≠ .quarantined → r.check ≠ .uncorrectable → r.staged = some x →
    (x.check ≠ .uncorrectable →
      ∃ t u,
        exec .edgeClaimGrant s = .next t ∧
        exec .edgeClaimGrant
            { s with
              slots := s.slots.set i
                { generation := s.slots[i].generation
                  record := some
                    { r with check := .clean, staged := none,
                             body :=
                              { r.body.write x.change with
                                runsLeft :=
                                  if r.life = .ended then r.body.runsLeft
                                  else x.change.repeats.getD r.body.runsLeft
                                lead := x.change.startOffset.getD r.body.lead } } } } = .next u ∧
        t.slots = u.slots ∧ t.tagMap = u.tagMap ∧ t.demand = u.demand ∧ t.pause = u.pause ∧ t.flow = u.flow ∧
        t.out = u.out) ∧
    (x.check = .uncorrectable →
      ∃ t u,
        exec .edgeClaimGrant s = .next t ∧
        exec .edgeClaimGrant
            { s with
              slots := s.slots.set i
                { generation := s.slots[i].generation
                  record := some { r with check := .clean, staged := none } } } = .next u ∧
        t.slots = u.slots ∧ t.tagMap = u.tagMap ∧ t.demand = u.demand ∧ t.pause = u.pause ∧ t.flow = u.flow ∧
        t.out = u.out ∧ t.hasCause .stageLost = true)

/-- R88, R89, R91: at an edge an ACTIVE record counts the interval just closed, up to 65550, and ends its run when elapsed
reaches the span; else it is suspended if its guard is not met. A SUSPENDED record counts nothing; it ends, resumes or
waits by the same tests. The end of a run re-arms, frees or ends the record. An ENDED record stays as it is. -/
def Obligations.EdgeAdvancesServingRecords : Prop :=
  ∀ (k : EdgeKind) (i : SlotId) (r : Record) (s : State), s.edgeGranted k → s.recordAt i = some r → r.passes →
    ∃ t, exec .edgeClaimGrant s = .next t ∧
      (r.life = .active → 0 < r.body.length → spanOf r.target r.body ≤ min (r.body.elapsed + 1) 65550 →
        t.slots[i].runEnded s.slots[i].generation
          { r with body := { r.body with elapsed := min (r.body.elapsed + 1) 65550 } }) ∧
      (r.life = .active → (r.body.length = 0 ∨ min (r.body.elapsed + 1) 65550 < spanOf r.target r.body) →
        t.slots[i].holds s.slots[i].generation
          { r with life := if guardMet t.latched r.body.guard = true then .active else .suspended,
                   body := { r.body with elapsed := min (r.body.elapsed + 1) 65550 } }) ∧
      (r.life = .suspended → 0 < r.body.length → spanOf r.target r.body ≤ r.body.elapsed →
        t.slots[i].runEnded s.slots[i].generation r) ∧
      (r.life = .suspended → (r.body.length = 0 ∨ r.body.elapsed < spanOf r.target r.body) →
        t.slots[i].holds s.slots[i].generation
          { r with life := if guardMet t.latched r.body.guard = true then .active else .suspended }) ∧
      (r.life = .ended → t.slots[i].holds s.slots[i].generation r)

/-- R83, R84, R86, R87: at an edge a STAGED record loads runs_left and is armed, or becomes PENDING with lead loaded; an ARMED
record triggered by its latch or by its line's level becomes PENDING with lead loaded, and waits otherwise; a record that
was PENDING has its lead counted. A PENDING record whose lead is 0 starts. NULLIFIED is set where
an unmet SKIP guard nullifies a start, from PENDING, STAGED or ARMED, and not otherwise. -/
def Obligations.EdgeArmsCountsAndStartsRecords : Prop :=
  (∀ (k : EdgeKind) (s : State), s.edgeGranted k →
     ∃ t, exec .edgeClaimGrant s = .next t ∧
       (t.hasCause .nullified = true ↔ s.hasCause .nullified = true ∨ ∃ i, s.nullifies t.latched i)) ∧
  (∀ (latched : Vector Bool 8) (g : Guard),
     guardMet latched none = true ∧ (guardMet latched (some g) = true ↔ latched[g.condition] = g.polarity)) ∧
  ∀ (k : EdgeKind) (i : SlotId) (r : Record) (s : State), s.edgeGranted k → s.recordAt i = some r → r.passes →
    ∃ t, exec .edgeClaimGrant s = .next t ∧
      (r.life = .staged → r.body.startMode = .trigger →
        t.slots[i].holds s.slots[i].generation
          { r with life := .armed,
                   body := { r.body with runsLeft := r.body.repeats, lead := 0,
                                         triggerSeen := r.body.triggerSeen.map fun _ => false } }) ∧
      (r.life = .staged → r.body.startMode = .immediate →
        t.slots[i].counted s.slots[i].generation t.latched
          { r with life := .pending,
                   body := { r.body with runsLeft := r.body.repeats, lead := r.body.startOffset } }) ∧
      (r.life = .armed → s.triggers r.body →
        t.slots[i].counted s.slots[i].generation t.latched
          { r with life := .pending,
                   body := { r.body with lead := r.body.startOffset,
                                         triggerSeen := r.body.triggerSeen.map fun _ => false } }) ∧
      (r.life = .armed → ¬s.triggers r.body → t.slots[i].holds s.slots[i].generation r) ∧
      (r.life = .pending →
        t.slots[i].counted s.slots[i].generation t.latched
          { r with body := { r.body with lead := r.body.lead - 1 } })

/-! ### The edge: the demand set and the apportionment -/

/-- R92, R94: the contribution list of the demand set names exactly the ACTIVE PASS_FLOW records on passes that are SCHEDULED and
not forced, in slot order, each with its pass, its tier by the live class map and its flow; the unserved list the other
PASS_FLOW records that are not QUARANTINED; the tier requests are the sums over the list; and a pass is forced exactly
while a QUARANTINED record targets it. -/
def Obligations.DemandSetNamesTheServedRecords : Prop :=
  ∀ (k : EdgeKind) (s : State), s.edgeGranted k →
    ∃ t d, exec .edgeClaimGrant s = .next t ∧ t.demand = some d ∧
      (∀ c, c ∈ d.contributions ↔
        ∃ r, t.recordAt c.slot = some r ∧ r.life = .active ∧ r.target = .pass c.pass ∧
          t.flow.bindings[c.pass].live = .scheduled ∧ d.forced[c.pass] = false ∧
          c.tier = t.flow.live.classMap[r.body.cls] ∧ c.flow = r.body.requestedFlow.getD 0) ∧
      (d.contributions.map (·.slot)).Pairwise (· < ·) ∧
      (∀ i, i ∈ d.unserved ↔
        ∃ r, t.recordAt i = some r ∧ r.target.kind = .passFlow ∧ r.life ≠ .quarantined ∧
          ∀ c ∈ d.contributions, c.slot ≠ i) ∧
      (∀ p : PassId,
        d.requests0[p] = ((d.contributions.filter fun c => c.pass = p ∧ c.tier = 0).map (·.flow)).sum ∧
        d.requests1[p] = ((d.contributions.filter fun c => c.pass = p ∧ c.tier = 1).map (·.flow)).sum ∧
        (d.forced[p] = true ↔ ∃ i r, t.recordAt i = some r ∧ r.life = .quarantined ∧ r.target = .pass p))

/-- R92, R95: the pause claims name exactly the ACTIVE UNIT_PAUSE records, in slot order, with their target, count and
unload_count; the held list the QUARANTINED ones; and the release list each slot that held a UNIT_PAUSE record when the
walk began and is now FREE or holds a record that is neither ACTIVE nor QUARANTINED. -/
def Obligations.DemandSetNamesThePauseClaims : Prop :=
  ∀ (k : EdgeKind) (s : State), s.edgeGranted k →
    ∃ t d, exec .edgeClaimGrant s = .next t ∧ t.demand = some d ∧
      (∀ c, c ∈ d.claims ↔
        ∃ r, t.recordAt c.slot = some r ∧ r.life = .active ∧ r.target = c.target ∧ r.target.kind = .unitPause ∧
          c.count = (if r.target = .any then r.body.pauseCount.getD 0 else 1) ∧
          c.unloadCount = r.body.unloadCount.getD 0) ∧
      (d.claims.map (·.slot)).Pairwise (· < ·) ∧
      (∀ i, i ∈ d.held ↔ ∃ r, t.recordAt i = some r ∧ r.life = .quarantined ∧ r.target.kind = .unitPause) ∧
      (∀ i, i ∈ d.release ↔
        (∃ r, s.recordAt i = some r ∧ r.target.kind = .unitPause) ∧
          ∀ r, t.recordAt i = some r → r.life ≠ .active ∧ r.life ≠ .quarantined)

/-- R107, R110, R111, R114: M is the sum of the targets of the forced, MANUAL and MANUAL_PULSE passes, and W0 what is left of
Q_used; each SCHEDULED pass that is not forced has its tier requests capped to its maximum, tier 0 first, and the target
g(p,0) + g(p,1); every other pass has requests and grants 0 and the target its binding or its force gives. -/
def Obligations.TargetsFollowBindingAndForce : Prop :=
  ∀ (k : EdgeKind) (s : State), s.edgeGranted k →
    ∃ t r d, exec .edgeClaimGrant s = .next t ∧ t.flow.record = some r ∧ t.demand = some d ∧
      r.m = passSum (fun p =>
        if r.passes[p].forced = true ∨ r.passes[p].binding = .manual ∨ r.passes[p].binding = .manualPulse
        then r.passes[p].target else 0) ∧
      r.w0 = r.qUsed - r.m ∧
      ∀ p : PassId,
        r.passes[p].binding = t.flow.bindings[p].live ∧ r.passes[p].forced = d.forced[p] ∧
        (r.passes[p].forced = true → r.passes[p].target = t.flow.live.passes[p].safe) ∧
        (r.passes[p].forced = false → (r.passes[p].binding = .manual ∨ r.passes[p].binding = .manualPulse) →
          r.passes[p].target = t.flow.bindings[p].setpoint) ∧
        (r.passes[p].forced = false → r.passes[p].binding = .idle → r.passes[p].target = 0) ∧
        ((r.passes[p].forced = true ∨ r.passes[p].binding ≠ .scheduled) →
          r.passes[p].r0 = 0 ∧ r.passes[p].r1 = 0 ∧ r.passes[p].c0 = 0 ∧ r.passes[p].c1 = 0 ∧ r.passes[p].g0 = 0 ∧
          r.passes[p].g1 = 0) ∧
        (r.passes[p].forced = false → r.passes[p].binding = .scheduled →
          r.passes[p].r0 = d.requests0[p] ∧ r.passes[p].r1 = d.requests1[p] ∧
          r.passes[p].c0 = min r.passes[p].r0 t.flow.live.passes[p].max ∧
          r.passes[p].c1 = min r.passes[p].r1 (t.flow.live.passes[p].max - r.passes[p].c0) ∧
          r.passes[p].target = r.passes[p].g0 + r.passes[p].g1)

/-- R112, R113: each tier is served in full where its capped requests fit its budget, and scaled by one fraction, floored, where
they do not, with its SHORTFALL raised; the grants never exceed the budget, G0 + G1 never exceeds what M leaves of Q_used,
and the flooring of a scaled tier leaves less of its budget than there are passes that request in it. -/
def Obligations.TiersShareTheBudget : Prop :=
  ∀ (k : EdgeKind) (s : State), s.edgeGranted k →
    ∃ t r, exec .edgeClaimGrant s = .next t ∧ t.flow.record = some r ∧
      r.d0 = passSum (fun p => r.passes[p].c0) ∧ r.g0 = passSum (fun p => r.passes[p].g0) ∧
      r.d1 = passSum (fun p => r.passes[p].c1) ∧ r.g1 = passSum (fun p => r.passes[p].g1) ∧
      r.g0 ≤ r.w0 ∧ r.w1 = r.w0 - r.g0 ∧ r.g0 + r.g1 ≤ r.qUsed - r.m ∧
      (r.d0 ≤ r.w0 →
        r.shortfall0 = false ∧ t.hasCause .shortfall0 = s.hasCause .shortfall0 ∧
        ∀ p : PassId, r.passes[p].g0 = r.passes[p].c0) ∧
      (r.w0 < r.d0 →
        r.shortfall0 = true ∧ t.hasCause .shortfall0 = true ∧
        r.w0 - r.g0 < ((indices 6).filter fun p => 0 < r.passes[p].c0).length ∧
        ∀ p : PassId, r.passes[p].g0 = r.passes[p].c0 * r.w0 / r.d0) ∧
      (r.d1 ≤ r.w1 →
        r.shortfall1 = false ∧ t.hasCause .shortfall1 = s.hasCause .shortfall1 ∧ r.residue = 0 ∧
        ∀ p : PassId, r.passes[p].g1 = r.passes[p].c1) ∧
      (r.w1 < r.d1 →
        r.shortfall1 = true ∧ t.hasCause .shortfall1 = true ∧ r.residue = r.w1 - r.g1 ∧
        r.residue < ((indices 6).filter fun p => 0 < r.passes[p].c1).length ∧
        ∀ p : PassId, r.passes[p].g1 = r.passes[p].c1 * r.w1 / r.d1)

/-- R93, R115: the write-back writes into each contributing record floor(flow × g(p,t) / R(p,t)), at most its requested flow, and
0 into each unserved one; the figures of one pass and tier add up to at most its grant, and fall short of it by less than
the number of those records. Records in neither list keep theirs. -/
def Obligations.ServedFiguresShareTheGrant : Prop :=
  ∀ (k : EdgeKind) (s : State), s.edgeGranted k →
    ∃ t r d, exec .edgeClaimGrant s = .next t ∧ t.flow.record = some r ∧ t.demand = some d ∧
      (∀ c ∈ d.contributions, ∃ x v, t.recordAt c.slot = some x ∧ x.check = .clean ∧ x.body.servedFlow = some v ∧
        v ≤ c.flow ∧
        v = if c.tier = 0 then c.flow * r.passes[c.pass].g0 / d.requests0[c.pass]
          else c.flow * r.passes[c.pass].g1 / d.requests1[c.pass]) ∧
      (∀ i ∈ d.unserved, ∃ x, t.recordAt i = some x ∧ x.check = .clean ∧ x.body.servedFlow = some 0) ∧
      (∀ i x, t.recordAt i = some x → (∀ c ∈ d.contributions, c.slot ≠ i) → i ∉ d.unserved →
        ∃ y, s.recordAt i = some y ∧ x.body.servedFlow = y.body.servedFlow) ∧
      ∀ p : PassId,
        ((d.contributions.filter fun c => c.pass = p ∧ c.tier = 0).map fun c =>
          c.flow * r.passes[p].g0 / d.requests0[p]).sum ≤ r.passes[p].g0 ∧
        (0 < d.requests0[p] →
          r.passes[p].g0 <
            ((d.contributions.filter fun c => c.pass = p ∧ c.tier = 0).map fun c =>
              c.flow * r.passes[p].g0 / d.requests0[p] + 1).sum) ∧
        ((d.contributions.filter fun c => c.pass = p ∧ c.tier = 1).map fun c =>
          c.flow * r.passes[p].g1 / d.requests1[p]).sum ≤ r.passes[p].g1 ∧
        (0 < d.requests1[p] →
          r.passes[p].g1 <
            ((d.contributions.filter fun c => c.pass = p ∧ c.tier = 1).map fun c =>
              c.flow * r.passes[p].g1 / d.requests1[p] + 1).sum)

/-- R117, R118: the delivered setpoint is the safe value at once where the pass is forced or a SAFE-style hold is entered;
elsewhere it moves from the previous value (the safe value at START), cut to the live maximum, toward the target by at most
the ramp step. With the settings in their ranges, target and setpoint are at most the pass's maximum as in force. -/
def Obligations.DeliveredSetpointIsRamped : Prop :=
  ∀ (k : EdgeKind) (p : PassId) (s : State), s.edgeGranted k →
    ∃ t r, exec .edgeClaimGrant s = .next t ∧ t.flow.record = some r ∧
      t.flow.delivered[p] = r.passes[p].delivered ∧
      (s.SettingsInRange → r.passes[p].target ≤ t.flow.live.passes[p].max ∧
        t.flow.delivered[p] ≤ t.flow.live.passes[p].max) ∧
      (r.passes[p].forced = true → t.flow.delivered[p] = t.flow.live.passes[p].safe) ∧
      (k = .holdEntry → t.flow.live.style = .safe →
        t.flow.delivered[p] = t.flow.live.passes[p].safe ∧ r.styleApplied = some .safe) ∧
      (k ≠ .holdEntry → r.styleApplied = none) ∧
      ∀ prev, prev = min (if k = .start then t.flow.live.passes[p].safe else s.flow.delivered[p])
          t.flow.live.passes[p].max →
        r.passes[p].forced = false → (k ≠ .holdEntry ∨ t.flow.live.style = .keep) →
        (r.passes[p].target = prev → t.flow.delivered[p] = prev) ∧
        (prev < r.passes[p].target →
          t.flow.delivered[p] =
            if t.flow.live.passes[p].rampUp = 0 then r.passes[p].target
            else min r.passes[p].target (prev + t.flow.live.passes[p].rampUp)) ∧
        (r.passes[p].target < prev →
          t.flow.delivered[p] =
            if t.flow.live.passes[p].rampDown = 0 then r.passes[p].target
            else max r.passes[p].target (prev - t.flow.live.passes[p].rampDown))

/-- R120, R121: D is the sum of the delivered setpoints. Where it is at most Q_used the turbines may take what neither the passes
nor the residual floor need, up to R_cap, and the rest is spilled, so that D + S + Tt is Q_used; where it is above, Tt and S
are 0 and the deficit is the gap. Where Q_used is below Q_res the ceiling and Tt are 0. LOW_RIVER and DEFICIT are raised by their
tests, and D + S is at least the smaller of Q_used and Q_res. -/
def Obligations.EdgeBalancesTheRiver : Prop :=
  ∀ (k : EdgeKind) (s : State), s.edgeGranted k →
    ∃ t r, exec .edgeClaimGrant s = .next t ∧ t.flow.record = some r ∧
      r.d = passSum (fun p => r.passes[p].delivered) ∧
      (r.d ≤ r.qUsed →
        r.tCeil = r.qUsed - max r.d t.flow.live.residual ∧ r.tt = min r.tCeil r.rCap ∧
        r.spill = r.qUsed - r.d - r.tt ∧ r.deficit = 0 ∧ r.deficitRaised = false ∧ r.d + r.spill + r.tt = r.qUsed) ∧
      (r.qUsed < r.d →
        r.tt = 0 ∧ r.spill = 0 ∧ r.deficit = r.d - r.qUsed ∧ r.deficitRaised = true ∧ t.hasCause .deficit = true) ∧
      (r.qUsed < t.flow.live.residual → r.tCeil = 0 ∧ r.tt = 0) ∧
      min r.qUsed t.flow.live.residual ≤ r.d + r.spill ∧
      r.lowRiver = decide (r.qUsed < t.flow.live.residual) ∧
      t.hasCause .lowRiver = (s.hasCause .lowRiver || r.lowRiver) ∧
      t.hasCause .deficit = (s.hasCause .deficit || r.deficitRaised)

/-! ### The edge: the units, the order frame and the release of the claim -/

/-- R126, R128, R130 to R132: at an edge a staged unit report becomes the availability and units out of service leave their lists;
a released slot's list is emptied and a lowered claim keeps its oldest units; every unit kept is advanced by one interval;
and new entries, at the list's end and only for a claim, are AVAILABLE units in the phase its unload_count gives, the unit
named for a FIXED claim. -/
def Obligations.EdgeWorksTheAssignmentLists : Prop :=
  ∀ (k : EdgeKind) (i : SlotId) (s : State), s.edgeGranted k →
    ∃ t d kept new,
      exec .edgeClaimGrant s = .next t ∧ t.demand = some d ∧ t.pause.report = none ∧
      t.pause.availability = s.pause.report.getD s.pause.availability ∧
      t.pause.lists[i] =
        (kept.map fun a =>
          if a.phase = .unload ∧ 1 < a.unloadLeft then { a with unloadLeft := a.unloadLeft - 1 }
          else if a.phase = .unload then { a with phase := .stop, unloadLeft := 0 }
          else a) ++ new ∧
      (i ∈ d.release → kept = []) ∧
      (i ∉ d.release → ∀ n, (∀ c ∈ d.claims, c.slot = i → n = c.count) →
        ((∀ c ∈ d.claims, c.slot ≠ i) → s.pause.lists[i].length ≤ n) →
        kept = (s.pause.lists[i].filter fun a =>
          s.pause.report = none || t.pause.availability[a.unit] = .available).take n) ∧
      (∀ a ∈ new, t.pause.availability[a.unit] = .available ∧
        ∃ c ∈ d.claims, c.slot = i ∧ (∀ u, c.target = .fixed u → a.unit = u) ∧ a.unloadLeft = c.unloadCount ∧
          a.phase = if c.unloadCount = 0 then .stop else .unload)

/-- R132 to R134, R136, R137: after an edge no claim's list is longer than its count; a FIXED claim is short only where its unit is not
AVAILABLE or stands on a list, an ANY claim only where every unit the live rotation table names does so, and a short claim
sets SHORT_ASSIGN. Of the FIXED claims with no unit left that name one AVAILABLE unit that stays on no list, the lowest slot's is
served with it, before any ANY claim; the ANY claims are then served by their walks in slot order. A rotation walk takes the first phase, from the pointer upward modulo 32, whose unit is AVAILABLE and
on no list, and fails where no phase qualifies; the first walk of an edge starts at the pointer, or at 0 where a load is
applied. The pointer is left after the phase of the last walk that succeeded, modulo 32, and where no walk succeeds, as with
FIXED claims alone, it stays where the walks would start. -/
def Obligations.ClaimsAreServedWhereTheyCanBe : Prop :=
  (∀ (k : EdgeKind) (s : State), s.edgeGranted k →
     ∃ t d, exec .edgeClaimGrant s = .next t ∧ t.demand = some d ∧
       (t.hasCause .shortAssign = true →
         s.hasCause .shortAssign = true ∨ ∃ c ∈ d.claims, t.pause.lists[c.slot].length < c.count) ∧
       ((∀ c ∈ d.claims, c.target = .any → ∀ a ∈ t.pause.lists[c.slot], ∃ b ∈ s.pause.lists[c.slot], b.unit = a.unit) →
         t.pause.pointer = s.pause.walkStart) ∧
       ((∃ c ∈ d.claims, c.target = .any ∧ ∃ a ∈ t.pause.lists[c.slot], ∀ b ∈ s.pause.lists[c.slot], b.unit ≠ a.unit) →
         ∃ c ∈ d.claims, c.target = .any ∧ ∃ l u ph, t.pause.lists[c.slot] = l ++ [c.newEntry u] ∧
           t.pause.live[ph] = some u ∧ t.pause.pointer = ph + 1) ∧
       (∀ c ∈ d.claims, c.target = .any → (∀ x ∈ d.claims, x.target = .any → x = c) → c.count = 1 →
         s.pause.lists[c.slot] = [] →
         (∀ ph u, walkFrom t.pause.availability t.pause.live (t.pause.lists.set c.slot []) s.pause.walkStart = some (ph, u) →
           t.pause.lists[c.slot] = [c.newEntry u] ∧ t.pause.pointer = ph + 1) ∧
         (walkFrom t.pause.availability t.pause.live (t.pause.lists.set c.slot []) s.pause.walkStart = none →
           t.pause.lists[c.slot] = [] ∧ t.pause.pointer = s.pause.walkStart)) ∧
       (∀ c ∈ d.claims, ∀ u, c.target = .fixed u → s.pause.kept d c.slot = [] →
         t.pause.availability[u] = .available → ¬s.pause.keeps d u →
         (∀ x ∈ d.claims, x.target = .fixed u → s.pause.kept d x.slot = [] → c.slot ≤ x.slot) →
         t.pause.lists[c.slot] = [c.newEntry u] ∧ ∀ j, j ≠ c.slot → ∀ a ∈ t.pause.lists[j], a.unit ≠ u) ∧
       (∃ failed,
         (d.claims.filter fun c => decide (c.target = .any)).foldl
             (fun x c => serveWalks t.pause.availability t.pause.live c (c.count - x.lists[c.slot].length) x)
             ⟨s.pause.beforeWalks d t.pause.lists, s.pause.walkStart, false⟩ =
           ⟨t.pause.lists, t.pause.pointer, failed⟩) ∧
       ∀ c ∈ d.claims,
         t.pause.lists[c.slot].length ≤ c.count ∧
         (t.pause.lists[c.slot].length < c.count →
           t.hasCause .shortAssign = true ∧
           (∀ u, c.target = .fixed u →
             t.pause.availability[u] ≠ .available ∨ assigned t.pause.lists u = true) ∧
           (c.target = .any → ∀ (ph : PhaseId) (u : UnitId), t.pause.live[ph] = some u →
             t.pause.availability[u] ≠ .available ∨ assigned t.pause.lists u = true))) ∧
  (∀ (av : Vector Availability 12) (live : Vector (Option UnitId) 32) (c : PauseClaim) (n : Nat) (lists : Lists)
      (pointer : PhaseId),
     (walkFrom av live lists pointer = none →
       serveWalks av live c (n + 1) ⟨lists, pointer, false⟩ = ⟨lists, pointer, true⟩ ∧
         ∀ m, serveWalks av live c m ⟨lists, pointer, true⟩ = ⟨lists, pointer, true⟩) ∧
     ∀ ph u, walkFrom av live lists pointer = some (ph, u) →
       serveWalks av live c (n + 1) ⟨lists, pointer, false⟩ =
         serveWalks av live c n ⟨lists.set c.slot (lists[c.slot] ++ [c.newEntry u]), ph + 1, false⟩) ∧
  (∀ (av : Vector Availability 12) (live : Vector (Option UnitId) 32) (lists : Lists) (pointer : PhaseId),
     (∀ ph u, walkFrom av live lists pointer = some (ph, u) ↔
       ∃ n : Fin 32, ph = pointer + n ∧ live[ph] = some u ∧ av[u] = .available ∧ assigned lists u = false ∧
         ∀ j : Fin 32, j < n → ∀ v, live[pointer + j] = some v → av[v] ≠ .available ∨ assigned lists v = true) ∧
     (walkFrom av live lists pointer = none ↔
       ∀ (ph : PhaseId) v, live[ph] = some v → av[v] ≠ .available ∨ assigned lists v = true))

/-- R119, R122, R135, R137: the unit order set of an edge gives each unit the order and slot of its list entry, or none; R_cap
adds a rating, half of it in UNLOAD, nothing in STOP or out of service, at most 72000 in all; the interval record copies both. A pending
rotation load makes the shadow table live, with the pointer at 0 for the walks; with none the live table stays, and the
pointer but for the walks. (That the record copies availability too is read from R135, notes/assumptions/17.md.) -/
def Obligations.UnitOrderSetFollowsTheLists : Prop :=
  ∀ (k : EdgeKind) (s : State), s.edgeGranted k →
    ∃ t r o d, exec .edgeClaimGrant s = .next t ∧ t.flow.record = some r ∧ t.pause.orders = some o ∧ t.demand = some d ∧
      r.units = o.units ∧ r.rCap = o.rCap ∧
      (∀ u : UnitId, o.units[u].availability = t.pause.availability[u] ∧
        (assigned t.pause.lists u = false → o.units[u].order = none ∧ o.units[u].slot = none) ∧
        (assigned t.pause.lists u = true →
          ∃ i a, a ∈ t.pause.lists[i] ∧ a.unit = u ∧ o.units[u].order = some a.phase ∧ o.units[u].slot = some i)) ∧
      o.rCap =
        ((indices 12).map fun u =>
          if o.units[u].availability = .outOfService then 0
          else
            match o.units[u].order with
            | none => t.flow.live.ratings[u]
            | some .unload => t.flow.live.ratings[u] / 2
            | some .stop => 0).sum ∧
      (s.SettingsInRange → o.rCap ≤ 72000) ∧
      t.pause.shadow = s.pause.shadow ∧ t.pause.loadPending = false ∧
      (s.pause.loadPending = true → t.pause.live = s.pause.shadow ∧
        ((∀ c ∈ d.claims, c.target ≠ .any) → t.pause.pointer = 0)) ∧
      (s.pause.loadPending = false → t.pause.live = s.pause.live ∧
        ((∀ c ∈ d.claims, c.target ≠ .any) → t.pause.pointer = s.pause.pointer))

/-- R109, R139, R189, R190: the order frame of an edge carries the edge's interval record. It begins at once where the
transmitter is IDLE, and the unit order lines then show the unit order set; else it waits, in place of any order frame that
waited, and the frame being sent goes on; the lines of a unit that the edge takes off every list are then low, and all other
lines as they were, until the frame begins. -/
def Obligations.EdgeHandsItsOrderFrame : Prop :=
  ∀ (k : EdgeKind) (s : State), s.edgeGranted k →
    ∃ t r o d f, exec .edgeClaimGrant s = .next t ∧ t.flow.record = some r ∧ t.pause.orders = some o ∧ t.demand = some d ∧
      f = { interval := t.time.interval, kind := some k, standby := false, hold := decide (k = .holdEntry),
            deficit := r.deficitRaised, stale := r.fallbackUsed, forced := r.passes.map (·.forced),
            setpoints := r.passes.map (·.delivered), tt := r.tt, spill := r.spill, qUsed := r.qUsed } ∧
      t.out.waitStandDown = s.out.waitStandDown ∧
      (s.out.sending = none →
        t.out.sending = some f ∧ t.out.sentSinceStart = true ∧ t.out.waitOrder = none ∧
        ∀ u : UnitId, t.pause.lines[u] =
          { unload := decide (o.units[u].order = some .unload), stop := decide (o.units[u].order = some .stop) }) ∧
      (s.out.sending ≠ none →
        t.out.sending = s.out.sending ∧ t.out.sentSinceStart = s.out.sentSinceStart ∧
        t.out.waitOrder = some (f, o.units) ∧
        ∀ u : UnitId,
          (s.pause.keeps d u ∨ assigned s.pause.lists u = false → t.pause.lines[u] = s.pause.lines[u]) ∧
          (assigned s.pause.lists u = true → ¬s.pause.keeps d u →
            t.pause.lines[u] = { unload := false, stop := false }))

/-- R62, R71, R74: as an edge claim is released, the hold level is compared with the operating state; where they disagree a hold
edge is raised, and it is the next claim granted (after the latches that wait). Where they agree, nothing is raised, and
the waiting request or scrub step is granted. -/
def Obligations.HoldIsComparedWhenAnEdgeIsReleased : Prop :=
  ∀ (k : EdgeKind) (s : State), s.edgeGranted k → s.arb.waitEdge = none →
    ∃ t, exec .edgeClaimGrant s = .next t ∧
      (s.time.opState = .run → s.holdLevel = true →
        t.time.opState = .hold .run (t.time.interval + 1) ∧ t.time.timerRunning = false ∧ t.time.windowOpen = false ∧
        (s.latches = [] → t.arb = { s.arb with holder := .edge .holdEntry }) ∧
        (s.latches ≠ [] → t.arb = { s.arb with holder := .nobody, waitEdge := some .holdEntry })) ∧
      (∀ e, s.time.opState = .hold .run e → s.holdLevel = false →
        t.time.opState = .run ∧ t.time.timerRunning = decide (s.time.source = .internal) ∧
        t.time.windowOpen = decide (s.time.source = .follow) ∧
        (s.latches = [] → t.arb = { s.arb with holder := .edge .holdExit }) ∧
        (s.latches ≠ [] → t.arb = { s.arb with holder := .nobody, waitEdge := some .holdExit })) ∧
      (¬(s.time.opState = .run ∧ s.holdLevel = true) → ¬((∃ e, s.time.opState = .hold .run e) ∧ s.holdLevel = false) →
        t.time = { s.time with interval := t.time.interval, lastEdge := t.time.lastEdge } ∧
        t.arb = (State.releaseTable s).arb)

/-! ### The timebase and the hold -/

/-- R69, R160, R189: START in STANDBY enters RUN with the START edge's claim waiting (INTERNAL), SYNCING (FOLLOW), or HOLD of
origin STARTING where the hold is asserted; elsewhere it is refused. The START edge's claim is the next granted. -/
def Obligations.StartActsByHoldAndTimebase : Prop :=
  ∀ (iss : Issuer) (s : State), s.admission (.start iss (.fields ())) = .granted →
    (s.time.opState ≠ .standby →
      exec (.start iss (.fields ())) s = .next (s.holdForRequest.answer ⟨.wrongMode, .empty⟩)) ∧
    (s.time.opState = .standby → s.holdLevel = true →
      exec (.start iss (.fields ())) s =
        .next
          (State.answer ⟨.ok, .empty⟩
            { s.holdForRequest with
              out := { s.out with sentSinceStart := false }
              time := { s.time with opState := .hold .starting s.time.interval } })) ∧
    (s.time.opState = .standby → s.holdLevel = false → s.time.source = .internal →
      exec (.start iss (.fields ())) s =
        .next
          (State.answer ⟨.ok, .empty⟩
            { s with
              arb := { s.arb with holder := .request, waitEdge := some .start }
              out := { s.out with sentSinceStart := false }
              time := { s.time with opState := .run, timerRunning := true, windowOpen := false } }) ∧
      ∀ t, exec (.start iss (.fields ())) s = .next t → s.latches = [] → t.arb.holder = .edge .start) ∧
    (s.time.opState = .standby → s.holdLevel = false → s.time.source = .follow →
      exec (.start iss (.fields ())) s =
        .next
          (State.answer ⟨.ok, .empty⟩
            { s.holdForRequest with
              out := { s.out with sentSinceStart := false }
              time := { s.time with opState := .syncing } }))

/-- R72, R73, R102, R105, R141, R191: STOP outside STANDBY stops the timebase and clears the host hold flag, withdraws a waiting
edge claim, empties every assignment list and drops every unit line, makes the staged settings and bindings live, discards a
waiting order frame, and sends a stand-down frame where an order frame has been sent since START. The table, the tag map,
the causes, the sensor block and the inflow stay. In STANDBY it is refused. -/
def Obligations.StopStandsThePartDown : Prop :=
  ∀ (iss : Issuer) (s : State), s.admission (.stop iss (.fields ())) = .granted →
    (s.time.opState = .standby →
      exec (.stop iss (.fields ())) s = .next (s.holdForRequest.answer ⟨.wrongMode, .empty⟩)) ∧
    (s.time.opState ≠ .standby →
      ∃ (flow : Apportioner) (out : OrderOutput),
        exec (.stop iss (.fields ())) s =
          .next
            (State.answer ⟨.ok, .empty⟩
              { s with
                arb := { s.arb with holder := .request, waitEdge := none }
                time := { s.time with opState := .standby, hostHold := false, timerRunning := false,
                                      windowOpen := false }
                pause := { s.pause with lists := Vector.replicate 64 [],
                                        lines := Vector.replicate 12 { unload := false, stop := false } }
                flow := flow
                out := out }) ∧
        settingsTaken s.flow flow ∧ flow.delivered = s.flow.delivered ∧ flow.record = s.flow.record ∧
        flow.heldInflow = s.flow.heldInflow ∧ flow.age = s.flow.age ∧ flow.reportMarker = s.flow.reportMarker ∧
        flow.fallbackFlag = s.flow.fallbackFlag ∧
        (∀ p : PassId,
          flow.bindings[p].staged = none ∧
          (∀ b v, s.flow.bindings[p].staged = some (b, v) →
            flow.bindings[p].live = b ∧ flow.bindings[p].pulse = false ∧
            flow.bindings[p].setpoint = cutTo s.flow.staged.passes[p].max v) ∧
          (s.flow.bindings[p].staged = none →
            flow.bindings[p].live = s.flow.bindings[p].live ∧ flow.bindings[p].pulse = s.flow.bindings[p].pulse ∧
            flow.bindings[p].setpoint = cutTo s.flow.staged.passes[p].max s.flow.bindings[p].setpoint)) ∧
        out.waitOrder = none ∧ out.sentSinceStart = s.out.sentSinceStart ∧
        (s.out.sentSinceStart = false →
          out.sending = s.out.sending ∧ out.waitStandDown = s.out.waitStandDown) ∧
        (s.out.sentSinceStart = true → ∃ f : OrderFrame,
          f.interval = s.time.interval ∧ f.kind = none ∧ f.standby = true ∧ f.hold = false ∧ f.deficit = false ∧
          f.stale = false ∧ (∀ p : PassId, f.forced[p] = false ∧ f.setpoints[p] = 0) ∧ f.tt = 0 ∧ f.spill = 0 ∧
          f.qUsed = 0 ∧
          (s.out.sending = none → out.sending = some f ∧ out.waitStandDown = s.out.waitStandDown) ∧
          (s.out.sending ≠ none → out.sending = s.out.sending ∧ out.waitStandDown = some f)))

/-- R62, R70, R71, R158, R159, R165: HOLD_ON sets and HOLD_OFF clears the host hold flag. Where that changes the hold level and no
edge claim waits: RUN becomes HOLD of origin RUN with the HOLD_ENTRY edge's claim waiting, SYNCING becomes HOLD of origin
SYNCING with no edge; a released hold of origin RUN raises HOLD_EXIT back into RUN, one of origin SYNCING returns to
SYNCING, one of origin STARTING acts as START does. Elsewhere the flag alone changes. -/
def Obligations.HoldRequestsActByStateAndOrigin : Prop :=
  (∀ (iss : Issuer) (s : State), s.admission (.holdOn iss (.fields ())) = .granted →
     ((s.holdLevel = true ∨ s.arb.waitEdge ≠ none ∨ s.time.opState = .standby ∨ ∃ o e, s.time.opState = .hold o e) →
       exec (.holdOn iss (.fields ())) s =
         .next (State.answer ⟨.ok, .empty⟩ { s.holdForRequest with time := { s.time with hostHold := true } })) ∧
     (s.holdLevel = false → s.arb.waitEdge = none → s.time.opState = .run →
       exec (.holdOn iss (.fields ())) s =
         .next
           (State.answer ⟨.ok, .empty⟩
             { s with
               arb := { s.arb with holder := .request, waitEdge := some .holdEntry }
               time := { s.time with hostHold := true, opState := .hold .run (s.time.interval + 1),
                                     timerRunning := false, windowOpen := false } })) ∧
     (s.holdLevel = false → s.arb.waitEdge = none → s.time.opState = .syncing →
       exec (.holdOn iss (.fields ())) s =
         .next
           (State.answer ⟨.ok, .empty⟩
             { s.holdForRequest with
               time := { s.time with hostHold := true, opState := .hold .syncing s.time.interval } }))) ∧
  (∀ (iss : Issuer) (s : State), s.admission (.holdOff iss (.fields ())) = .granted →
     ((s.time.holdLine.level = true ∨ s.time.hostHold = false ∨ s.arb.waitEdge ≠ none ∨
         ∀ o e, s.time.opState ≠ .hold o e) →
       exec (.holdOff iss (.fields ())) s =
         .next (State.answer ⟨.ok, .empty⟩ { s.holdForRequest with time := { s.time with hostHold := false } })) ∧
     ∀ e, s.time.holdLine.level = false → s.time.hostHold = true → s.arb.waitEdge = none →
       (s.time.opState = .hold .run e →
         exec (.holdOff iss (.fields ())) s =
           .next
             (State.answer ⟨.ok, .empty⟩
               { s with
                 arb := { s.arb with holder := .request, waitEdge := some .holdExit }
                 time := { s.time with hostHold := false, opState := .run,
                                       timerRunning := decide (s.time.source = .internal),
                                       windowOpen := decide (s.time.source = .follow) } })) ∧
       ((s.time.opState = .hold .syncing e ∨ s.time.opState = .hold .starting e ∧ s.time.source = .follow) →
         exec (.holdOff iss (.fields ())) s =
           .next
             (State.answer ⟨.ok, .empty⟩
               { s.holdForRequest with time := { s.time with hostHold := false, opState := .syncing } })) ∧
       (s.time.opState = .hold .starting e → s.time.source = .internal →
         exec (.holdOff iss (.fields ())) s =
           .next
             (State.answer ⟨.ok, .empty⟩
               { s with
                 arb := { s.arb with holder := .request, waitEdge := some .start }
                 time := { s.time with hostHold := false, opState := .run, timerRunning := true,
                                       windowOpen := false } })))

/-- R62, R71, R158: HOLD_LINE_CHANGE gives the HOLD line's filter its level. Where that changes the hold level and no edge is
outstanding, the timebase takes the change: HOLD_ENTRY from RUN, HOLD_EXIT from a hold of origin RUN, no edge elsewhere;
else the filter alone changes. (That the command is two samples at its level, whatever the filter held, is the model's choice,
notes/assumptions/12.md.) -/
def Obligations.HoldLineIsTakenByTheTimebase : Prop :=
  ∀ (x : Bool) (s : State), s.inReset = false →
    ((s.time.holdLine.level = x ∨ s.time.hostHold = true ∨ s.edgeOutstanding = true ∨ s.time.opState = .standby ∨
        x = true ∧ (∃ o e, s.time.opState = .hold o e) ∨ x = false ∧ ∀ o e, s.time.opState ≠ .hold o e) →
      exec (.holdLineChange x) s = .next { s with time := { s.time with holdLine := ⟨some x, x⟩ } }) ∧
    (s.time.holdLine.level ≠ x → s.time.hostHold = false → s.edgeOutstanding = false →
      (x = true → s.time.opState = .run →
        exec (.holdLineChange x) s =
          .next { s with arb := s.claimed .holdEntry,
                         time := { s.time with holdLine := ⟨some x, x⟩, opState := .hold .run (s.time.interval + 1),
                                               timerRunning := false, windowOpen := false } }) ∧
      (x = true → s.time.opState = .syncing →
        exec (.holdLineChange x) s =
          .next { s with time := { s.time with holdLine := ⟨some x, x⟩,
                                               opState := .hold .syncing s.time.interval } }) ∧
      (∀ e, x = false → s.time.opState = .hold .run e →
        exec (.holdLineChange x) s =
          .next { s with arb := s.claimed .holdExit,
                         time := { s.time with holdLine := ⟨some x, x⟩, opState := .run,
                                               timerRunning := decide (s.time.source = .internal),
                                               windowOpen := decide (s.time.source = .follow) } }) ∧
      (∀ e, x = false →
        (s.time.opState = .hold .syncing e ∨ s.time.opState = .hold .starting e ∧ s.time.source = .follow) →
        exec (.holdLineChange x) s =
          .next { s with time := { s.time with holdLine := ⟨some x, x⟩, opState := .syncing } }) ∧
      (∀ e, x = false → s.time.opState = .hold .starting e → s.time.source = .internal →
        exec (.holdLineChange x) s =
          .next { s with arb := s.claimed .start,
                         time := { s.time with holdLine := ⟨some x, x⟩, opState := .run, timerRunning := true,
                                               windowOpen := false } }))

/-- R62, R63, R66: in RUN the interval timer's expiry raises a TIMED edge, and the lost-mark limit's a SELF edge with MARK_LOST;
the timer or the window starts again from the edge. With the timer stopped, the window closed or an edge claim
outstanding, nothing happens (the model's choice, notes/assumptions/9.md). -/
def Obligations.ExpiriesRaiseTimedAndSelfEdges : Prop :=
  ∀ s : State, s.inReset = false →
    (s.time.timerRunning = true → s.edgeOutstanding = false →
      exec .intervalTimerExpiry s =
        .next { s with arb := s.claimed .timed,
                       time := { s.time with timerRunning := decide (s.time.source = .internal),
                                             windowOpen := decide (s.time.source = .follow) } }) ∧
    (s.time.windowOpen = true → s.edgeOutstanding = false →
      ∃ causes : CauseUnit,
        exec .lostMarkLimitExpiry s =
          .next { s with arb := s.claimed .self,
                         time := { s.time with timerRunning := decide (s.time.source = .internal),
                                               windowOpen := decide (s.time.source = .follow) },
                         causes := causes } ∧
        causes.sticky = s.causes.sticky.set (stickyIndex .markLost) true ∧
        causes.recordQuarantined = s.causes.recordQuarantined ∧ causes.enable = s.causes.enable ∧
        causes.lineEnable = s.causes.lineEnable ∧
        (s.causes.enable[stickyIndex .markLost] = true → causes.alert = true)) ∧
    ((s.time.timerRunning = false ∨ s.edgeOutstanding = true) → exec .intervalTimerExpiry s = .next s) ∧
    ((s.time.windowOpen = false ∨ s.edgeOutstanding = true) → exec .lostMarkLimitExpiry s = .next s)

/-- R64 to R67, R70: a mark (a rise of the filtered level) raises the START edge in SYNCING, and in RUN under FOLLOW a MARK edge at
half the interval length or later after the last edge; before that, or while an edge claim is outstanding, it is early and
sets EARLY_MARK alone. Elsewhere it is discarded. A sample moves the filtered level only where it agrees with the one
before, and the sample that completes a rise is the mark. (The model's choices: a mark at or after the lost-mark limit is a MARK edge, and
one while an edge claim is outstanding early, notes/assumptions/9.md; MARK comes whatever the filter held,
notes/assumptions/12.md.) -/
def Obligations.MarkIsJudgedByStateAndTime : Prop :=
  (∀ (n : Nat) (s : State), s.inReset = false →
     (s.time.opState = .syncing →
       exec (.mark n) s =
         .next { s with arb := s.claimed .start,
                        time := { s.time with markFilter := ⟨some true, true⟩, opState := .run,
                                              timerRunning := decide (s.time.source = .internal),
                                              windowOpen := decide (s.time.source = .follow) } }) ∧
     (s.time.opState = .run → s.time.source = .follow → s.edgeOutstanding = false → 30000 * s.time.lengthMin ≤ n →
       exec (.mark n) s =
         .next { s with arb := s.claimed .mark,
                        time := { s.time with markFilter := ⟨some true, true⟩, timerRunning := false,
                                              windowOpen := true } }) ∧
     (s.time.opState = .run → s.time.source = .follow →
       (s.edgeOutstanding = true ∨ n < 30000 * s.time.lengthMin) →
       ∃ causes : CauseUnit,
         exec (.mark n) s =
           .next { s with time := { s.time with markFilter := ⟨some true, true⟩ }, causes := causes } ∧
         causes.sticky = s.causes.sticky.set (stickyIndex .earlyMark) true ∧
         causes.recordQuarantined = s.causes.recordQuarantined ∧ causes.enable = s.causes.enable ∧
         causes.lineEnable = s.causes.lineEnable ∧
         (s.causes.enable[stickyIndex .earlyMark] = true → causes.alert = true)) ∧
     ((s.time.opState = .standby ∨ (∃ o e, s.time.opState = .hold o e) ∨
         s.time.opState = .run ∧ s.time.source = .internal) →
       exec (.mark n) s = .next { s with time := { s.time with markFilter := ⟨some true, true⟩ } })) ∧
  (∀ (x : Bool) (n : Nat) (s : State), s.inReset = false →
     (s.time.markFilter.previous ≠ some x →
       exec (.markSample x n) s =
         .next { s with time := { s.time with markFilter := ⟨some x, s.time.markFilter.level⟩ } }) ∧
     (s.time.markFilter.previous = some x →
       (x = s.time.markFilter.level ∨ x = false ∨ s.time.opState = .standby) →
       exec (.markSample x n) s = .next { s with time := { s.time with markFilter := ⟨some x, x⟩ } }) ∧
     (s.time.markFilter.previous = some true → s.time.markFilter.level = false → x = true →
       exec (.markSample x n) s = exec (.mark n) s))

/-! ### The sensor block -/

/-- R146 to R148, R151: a sample moves its line's filter only where it agrees with the previous one. An enabled line makes an event at
the transition its edge mode names, or at a sample whose filtered level is its level mode's: the event sets the pending
flag, and an edge-mode event queues one trigger latch behind those that wait. Nothing else changes but ALERT. A LINE_EVENT is
such an event, and its line's filtered level is then the one the event names; on a line that is off, or whose mode makes no
event of it, it moves the filter and makes no latch, and a level mode that the level then matches makes its own event (that
LINE_EVENT is a sample, whatever samples came before, is the model's choice, notes/assumptions/12.md). -/
def Obligations.LineSamplesMakeEventsAndLatches : Prop :=
  (∀ (m : LineId) (x : Bool) (s : State), s.inReset = false →
     ∃ t l, exec (.sensorLineSample m x) s = .next t ∧ l = s.sensors[m] ∧
       t = { s with sensors := t.sensors, latches := t.latches, causes := t.causes } ∧
       t.causes = { s.causes with alert := t.causes.alert } ∧ (∀ j, j ≠ m → t.sensors[j] = s.sensors[j]) ∧
       (l.filter.previous ≠ some x ∨ l.filter.level = x →
         t.sensors[m].filter = ⟨some x, l.filter.level⟩ ∧ t.latches = s.latches) ∧
       (l.filter.previous = some x → l.filter.level ≠ x →
         t.sensors[m].filter = ⟨some x, x⟩ ∧
         t.latches =
           if l.enable = true ∧ (l.mode = .both ∨ l.mode = .rise ∧ x = true ∨ l.mode = .fall ∧ x = false)
           then s.latches ++ [m] else s.latches) ∧
       t.sensors[m] = { l with filter := t.sensors[m].filter, pending := t.sensors[m].pending } ∧
       (t.sensors[m].pending = true ↔
         l.pending = true ∨
           l.enable = true ∧
             (l.mode = .high ∧ t.sensors[m].filter.level = true ∨ l.mode = .low ∧ t.sensors[m].filter.level = false ∨
               l.filter.previous = some x ∧ l.filter.level ≠ x ∧
                 (l.mode = .both ∨ l.mode = .rise ∧ x = true ∨ l.mode = .fall ∧ x = false)))) ∧
  (∀ (m : LineId) (s : State), s.inReset = false → s.sensors[m].enable = true →
     ((s.sensors[m].mode = .rise ∨ s.sensors[m].mode = .both) →
       ∃ t, exec (.lineEvent m .rise) s = .next t ∧ t.latches = s.latches ++ [m] ∧
         t.sensors = s.sensors.set m { s.sensors[m] with filter := ⟨some true, true⟩, pending := true } ∧
         t.causes = { s.causes with alert := t.causes.alert } ∧
         t = { s with sensors := t.sensors, latches := t.latches, causes := t.causes }) ∧
     ((s.sensors[m].mode = .fall ∨ s.sensors[m].mode = .both) →
       ∃ t, exec (.lineEvent m .fall) s = .next t ∧ t.latches = s.latches ++ [m] ∧
         t.sensors = s.sensors.set m { s.sensors[m] with filter := ⟨some false, false⟩, pending := true } ∧
         t.causes = { s.causes with alert := t.causes.alert } ∧
         t = { s with sensors := t.sensors, latches := t.latches, causes := t.causes }) ∧
     ((s.sensors[m].mode = .high ∧ s.sensors[m].filter.level = true ∨
         s.sensors[m].mode = .low ∧ s.sensors[m].filter.level = false) →
       ∃ t, exec (.lineEvent m .level) s = .next t ∧ t.latches = s.latches ∧
         t.sensors = s.sensors.set m
           { s.sensors[m] with
             filter := ⟨some s.sensors[m].filter.level, s.sensors[m].filter.level⟩
             pending := true } ∧
         t.causes = { s.causes with alert := t.causes.alert } ∧
         t = { s with sensors := t.sensors, latches := t.latches, causes := t.causes })) ∧
  (∀ (m : LineId) (x : Bool) (s : State), s.inReset = false →
     ¬(s.sensors[m].enable = true ∧ s.sensors[m].mode.edgeAt x) →
     ∃ t, exec (.lineEvent m (if x then .rise else .fall)) s = .next t ∧ t.latches = s.latches ∧
       (s.sensors[m].enable = true → s.sensors[m].mode.levelAt x →
         t.sensors = s.sensors.set m { s.sensors[m] with filter := ⟨some x, x⟩, pending := true }) ∧
       (¬(s.sensors[m].enable = true ∧ s.sensors[m].mode.levelAt x) →
         t.sensors = s.sensors.set m { s.sensors[m] with filter := ⟨some x, x⟩ }) ∧
       t.causes = { s.causes with alert := t.causes.alert } ∧
       t = { s with sensors := t.sensors, latches := t.latches, causes := t.causes }) ∧
  (∀ (m : LineId) (s : State), s.inReset = false →
     ¬(s.sensors[m].enable = true ∧ s.sensors[m].mode.levelAt s.sensors[m].filter.level) →
     ∃ t, exec (.lineEvent m .level) s = .next t ∧ t.latches = s.latches ∧
       t.sensors = s.sensors.set m
         { s.sensors[m] with filter := ⟨some s.sensors[m].filter.level, s.sensors[m].filter.level⟩ } ∧
       t.causes = { s.causes with alert := t.causes.alert } ∧
       t = { s with sensors := t.sensors, latches := t.latches, causes := t.causes })

/-- R2, R74, R151, R168, R170: the oldest waiting latch, with no claim holding the table, reaches every ARMED record bound to its line: its
trigger_seen becomes yes. A body that cannot be corrected is quarantined and not latched; the correction of any
other is counted in its slot's bank, in slot order, and no cause changes but for these. No slot in another state changes, and the next claim may then be granted. A latch that is not the oldest waiting, or one while a claim holds the
table, changes nothing (the model's choice, notes/assumptions/11.md). -/
def Obligations.LatchReachesArmedRecords : Prop :=
  ∀ (m : LineId) (rest : List LineId) (s : State), s.inReset = false →
    (s.latches = m :: rest → s.arb.holder = .nobody →
      ∃ t, exec (.triggerLatch m) s = .next t ∧ t.latches = rest ∧
        t = { s with arb := t.arb, latches := rest, slots := t.slots, tagMap := t.tagMap, banks := t.banks,
                     causes := t.causes } ∧
        (s.TagMapAgrees → t.tagMap = s.tagMap) ∧ t.arb = (State.grantNext { s with latches := rest }).arb ∧
        (∀ i, (∀ r, s.recordAt i = some r → r.life ≠ .armed) → t.slots[i] = s.slots[i]) ∧
        (∀ i r, s.recordAt i = some r → r.life = .armed → r.check ≠ .uncorrectable →
          t.slots[i] =
            { generation := s.slots[i].generation
              record := some
                { r with check := .clean,
                         body := { r.body with
                           triggerSeen :=
                             if r.body.triggerLine = some m then r.body.triggerSeen.map fun _ => true
                             else r.body.triggerSeen } } }) ∧
        (∀ i r, s.recordAt i = some r → r.life = .armed → r.check = .uncorrectable →
          t.slots[i] =
            { generation := s.slots[i].generation, record := some { r with life := .quarantined, staged := none } } ∧
          t.causes.recordQuarantined = true) ∧
        t.banks = ((indices 64).foldl (fun u i => u.countFixes i (s.latchFixes i)) s).banks ∧
        t.hasCause .fixOverflow =
          ((indices 64).foldl (fun u i => u.countFixes i (s.latchFixes i)) s).hasCause .fixOverflow ∧
        (∀ c, c ≠ .fixOverflow → t.hasCause c = s.hasCause c) ∧
        (t.causes.recordQuarantined = true ↔
          s.causes.recordQuarantined = true ∨
            ∃ i r, s.recordAt i = some r ∧ r.life = .armed ∧ r.check = .uncorrectable)) ∧
    (s.arb.holder ≠ .nobody → exec (.triggerLatch m) s = .next s) ∧
    (s.latches.head? ≠ some m → exec (.triggerLatch m) s = .next s)

/-- R144, R149, R155, R156: SET_LINE writes the four settings of its line, clears the pending flag where mode or enable changes and
the previous sample where the sample period does; ACK_LINES clears the pending flag of each line named; SET_CONDITION
writes a host value and SET_CONDITION_SOURCE a source, of C1 to C7 alone. Each refuses what its rule does not allow, with
nothing changed. -/
def Obligations.SensorRequestsWriteWhatTheyName : Prop :=
  (∀ (iss : Issuer) (f : LineFields) (s : State), s.admission (.setLine iss (.fields f)) = .granted →
     ((7 < f.line ∨ f.mode = none ∨ f.enable = none ∨ f.base = none ∨ 7 < f.prescale) →
       exec (.setLine iss (.fields f)) s = .next (s.holdForRequest.answer ⟨.badField, .empty⟩)) ∧
     ∀ (m : LineId) (mode : LineMode) (on : Bool) (base : SampleBase) (n : Fin 8),
       f = { line := m.val, mode := some mode, enable := some on, base := some base, prescale := n.val } →
       ∃ causes : CauseUnit,
         exec (.setLine iss (.fields f)) s =
           .next
             (State.answer ⟨.ok, .empty⟩
               { s.holdForRequest with
                 causes := causes
                 sensors := s.sensors.set m
                   { mode := mode, enable := on, base := base, prescale := n
                     filter :=
                       { previous :=
                           if base = s.sensors[m].base ∧ n = s.sensors[m].prescale then s.sensors[m].filter.previous
                           else none
                         level := s.sensors[m].filter.level }
                     pending := s.sensors[m].pending && decide (mode = s.sensors[m].mode) &&
                       decide (on = s.sensors[m].enable) } }) ∧
         causes = { s.causes with alert := causes.alert }) ∧
  (∀ (iss : Issuer) (s : State),
     (∀ l : List Nat, s.admission (.ackLines iss (.fields l)) = .granted →
       ((∃ n ∈ l, 7 < n) →
         exec (.ackLines iss (.fields l)) s = .next (s.holdForRequest.answer ⟨.badField, .empty⟩)) ∧
       ((∀ n ∈ l, n ≤ 7) →
         ∃ causes : CauseUnit,
           exec (.ackLines iss (.fields l)) s =
             .next
               (State.answer ⟨.ok, .empty⟩
                 { s.holdForRequest with
                   causes := causes
                   sensors := Vector.ofFn fun m : Fin 8 =>
                     { s.sensors[m] with pending := s.sensors[m].pending && decide (m.val ∉ l) } }) ∧
           causes = { s.causes with alert := causes.alert })) ∧
     (∀ f : ConditionFields, s.admission (.setCondition iss (.fields f)) = .granted →
       ((f.condition = 0 ∨ 7 < f.condition ∨ f.value = none) →
         exec (.setCondition iss (.fields f)) s = .next (s.holdForRequest.answer ⟨.badField, .empty⟩)) ∧
       ∀ (c : Fin 7) v, f = { condition := c.val + 1, value := some v } →
         exec (.setCondition iss (.fields f)) s =
           .next
             (State.answer ⟨.ok, .empty⟩
               { s.holdForRequest with
                 conditions := s.conditions.set c { s.conditions[c] with hostValue := v } })) ∧
     (∀ f : SourceFields, s.admission (.setConditionSource iss (.fields f)) = .granted →
       ((f.condition = 0 ∨ 7 < f.condition ∨ f.source = .other ∨ (∃ inv, f.source = .host (some inv)) ∨
           (∃ n, f.source = .line n none) ∨ ∃ n inv, 7 < n ∧ f.source = .line n inv) →
         exec (.setConditionSource iss (.fields f)) s = .next (s.holdForRequest.answer ⟨.badField, .empty⟩)) ∧
       ∀ (c : Fin 7), f.condition = c.val + 1 →
         (f.source = .host none →
           exec (.setConditionSource iss (.fields f)) s =
             .next
               (State.answer ⟨.ok, .empty⟩
                 { s.holdForRequest with
                   conditions := s.conditions.set c { s.conditions[c] with source := .host } })) ∧
         (∀ (m : LineId) inv, f.source = .line m.val (some inv) →
           exec (.setConditionSource iss (.fields f)) s =
             .next
               (State.answer ⟨.ok, .empty⟩
                 { s.holdForRequest with
                   conditions := s.conditions.set c { s.conditions[c] with source := .line m inv } }))))

/-! ### Settings, bindings, reports and the causes -/

/-- R59, R101, R187, 12.5: a body of items is accepted exactly when it has 1 to 25 of them, no code and index twice, each naming a setting
with a value in its range; and it is then read as those settings and values. A body that is no whole number of items is not
accepted. The thirteen codes and their indices are those of the item table, and the ranges those of the settings. -/
def Obligations.SettingsBodyIsCheckedItemByItem : Prop :=
  (∀ (raw : List (Byte × Byte × BitVec 16)) (items : List (Setting × Nat)),
    checkSettings (raw.flatMap fun e => [e.1, e.2.1] ++ bytes16 e.2.2) = some items ↔
      1 ≤ raw.length ∧ raw.length ≤ 25 ∧ (raw.map fun e => (e.1, e.2.1)).Nodup ∧
        (raw.map fun e => (settingOf e.1.toNat e.2.1.toNat, e.2.2.toNat)) = items.map (fun e => (some e.1, e.2)) ∧
        ∀ e ∈ items, settingInRange e.1 e.2 = true) ∧
  (∀ bytes : List Byte, bytes.length % 4 ≠ 0 → checkSettings bytes = none) ∧
  (∀ (code idx : Nat) (st : Setting), settingOf code idx = some st ↔ (code, idx) = st.item) ∧
  ∀ (st : Setting) (v : Nat), settingInRange st v = true ↔ st.accepts v

/-- R59, R102, R103, R173, R187: an accepted SET_SETTINGS writes the timebase settings and the scrubber enable at once, and the flow
settings live in STANDBY, with their cuts, and into the staged record elsewhere; a clamped safe value is answered
OK_CLAMPED. A body that fails a check is refused, and one that names a timebase setting outside STANDBY; nothing changes
then. -/
def Obligations.SetSettingsWritesOrStages : Prop :=
  ∀ (iss : Issuer) (bytes : List Byte) (s : State), s.admission (.setSettings iss bytes) = .granted →
    (checkSettings bytes = none →
      exec (.setSettings iss bytes) s = .next (s.holdForRequest.answer ⟨.badField, .empty⟩)) ∧
    ∀ items, checkSettings bytes = some items →
      (s.time.opState ≠ .standby → (itemValue .length items ≠ none ∨ itemValue .timebase items ≠ none) →
        exec (.setSettings iss bytes) s = .next (s.holdForRequest.answer ⟨.wrongMode, .empty⟩)) ∧
      (s.time.opState = .standby ∨ (itemValue .length items = none ∧ itemValue .timebase items = none) →
        ∃ t st, exec (.setSettings iss bytes) s = .next t ∧ t.port = .answered ⟨st, .empty⟩ ∧
          ((∃ p v, itemValue (.safe p) items = some v ∧
              (itemValue (.passMax p) items).getD s.flow.live.passes[p].max < v) → st = .okClamped) ∧
          ((∀ p v, itemValue (.safe p) items = some v →
              v ≤ (itemValue (.passMax p) items).getD s.flow.live.passes[p].max) → st = .ok) ∧
          t.time = { s.time with lengthMin := (itemValue .length items).getD s.time.lengthMin,
                                 source := t.time.source } ∧
          (itemValue .timebase items = some 0 → t.time.source = .internal) ∧
          (itemValue .timebase items = some 1 → t.time.source = .follow) ∧
          (itemValue .timebase items = none → t.time.source = s.time.source) ∧
          t.scrub.next = s.scrub.next ∧
          (itemValue .scrubber items = some 0 → t.scrub.enable = false ∧ (s.scrub.enable = true → t.arb.waitScrub = false ∧
            t.arb.holder ≠ .scrubber)) ∧
          (itemValue .scrubber items = some 1 → t.scrub.enable = true) ∧
          (itemValue .scrubber items = none → t.scrub.enable = s.scrub.enable) ∧
          (s.time.opState ≠ .standby →
            settingsStaged s.flow.live items s.flow.staged t.flow.staged ∧
            t.flow = { s.flow with staged := t.flow.staged }) ∧
          (s.time.opState = .standby → s.flow.staged = .none →
            ∃ staged, settingsStaged s.flow.live items .none staged ∧
              settingsTaken { s.flow with staged := staged } t.flow ∧
              (∀ p : PassId, t.flow.bindings[p].setpoint = cutTo staged.passes[p].max s.flow.bindings[p].setpoint ∧
                t.flow.bindings[p].live = s.flow.bindings[p].live ∧
                t.flow.bindings[p].pulse = s.flow.bindings[p].pulse) ∧
              t.flow.delivered = s.flow.delivered ∧ t.flow.record = s.flow.record ∧
              t.flow.heldInflow = s.flow.heldInflow ∧ t.flow.age = s.flow.age) ∧
          t = { s with port := t.port, ready := t.ready, arb := t.arb, time := t.time, flow := t.flow,
                       scrub := t.scrub })

/-- R98, R105, R125, R137: SET_BINDING writes a pass's binding and setpoint live in STANDBY, with the pulse marker no, and stages
them elsewhere, the setpoint clamped to the pass's live maximum; REPORT_INFLOW holds its value, at most 60000, and sets the
report marker; REPORT_UNITS stages its twelve values; LOAD_ROTATION writes its 32 entries into the shadow table with load
pending yes. A clamp is answered OK_CLAMPED; what a rule does not allow is refused with nothing changed. -/
def Obligations.BindingsReportsAndLoadsAreHeld : Prop :=
  (∀ (iss : Issuer) (s : State),
     (∀ f : BindingFields, s.admission (.setBinding iss (.fields f)) = .granted →
       ((5 < f.pass ∨ f.binding = none) →
         exec (.setBinding iss (.fields f)) s = .next (s.holdForRequest.answer ⟨.badField, .empty⟩)) ∧
       ∀ (p : PassId) k, f.pass = p.val → f.binding = some k →
         exec (.setBinding iss (.fields f)) s =
           .next
             (State.answer
               ⟨if s.flow.live.passes[p].max < f.setpoint.toNat then .okClamped else .ok, .empty⟩
               { s.holdForRequest with
                 flow := { s.flow with
                   bindings := s.flow.bindings.set p
                     (if s.time.opState = .standby then
                       { live := k, setpoint := min f.setpoint.toNat s.flow.live.passes[p].max, pulse := false,
                         staged := s.flow.bindings[p].staged }
                     else
                       { s.flow.bindings[p] with
                         staged := some (k, min f.setpoint.toNat s.flow.live.passes[p].max) }) } })) ∧
     ∀ v : BitVec 16, s.admission (.reportInflow iss (.fields v)) = .granted →
       exec (.reportInflow iss (.fields v)) s =
         .next
           (State.answer ⟨if 60000 < v.toNat then .okClamped else .ok, .empty⟩
             { s.holdForRequest with
               flow := { s.flow with heldInflow := some (min v.toNat 60000), reportMarker := true } })) ∧
  (∀ (iss : Issuer) (s : State),
     (∀ l : List (Option Availability), s.admission (.reportUnits iss (.fields l)) = .granted →
       ((l.length ≠ 12 ∨ none ∈ l) →
         exec (.reportUnits iss (.fields l)) s = .next (s.holdForRequest.answer ⟨.badField, .empty⟩)) ∧
       ∀ av : Vector Availability 12, l = av.toList.map some →
         exec (.reportUnits iss (.fields l)) s =
           .next
             (State.answer ⟨.ok, .empty⟩
               { s.holdForRequest with pause := { s.pause with report := some av } })) ∧
     ∀ l : List Nat, s.admission (.loadRotation iss (.fields l)) = .granted →
       ((l.length ≠ 32 ∨ ∃ n ∈ l, 11 < n ∧ n ≠ 15) →
         exec (.loadRotation iss (.fields l)) s = .next (s.holdForRequest.answer ⟨.badField, .empty⟩)) ∧
       ∀ table : Vector (Option UnitId) 32, l = table.toList.map (fun e => e.elim 15 (·.val)) →
         exec (.loadRotation iss (.fields l)) s =
           .next
             (State.answer ⟨.ok, .empty⟩
               { s.holdForRequest with pause := { s.pause with shadow := table, loadPending := true } }))

/-- R169, R177, R179: ACK_CAUSES clears the causes named, RECORD_QUARANTINED only while no slot is QUARANTINED, and answers the set
left; SET_ALERT_MASK turns exactly the enables named on; ALERT follows; CLEAR_TRACKING clears every bank and answers what they held. A
set that names no cause, or RECORD_QUARANTINED's enable, is refused with nothing changed. -/
def Obligations.CauseRequestsClearAndMask : Prop :=
  ∀ (iss : Issuer) (s : State),
    (∀ l : List (Option Cause), s.admission (.ackCauses iss (.fields l)) = .granted →
      (none ∈ l → exec (.ackCauses iss (.fields l)) s = .next (s.holdForRequest.answer ⟨.badField, .empty⟩)) ∧
      (none ∉ l →
        ∃ causes : CauseUnit,
          exec (.ackCauses iss (.fields l)) s =
            .next
              (State.answer ⟨.ok, .causeSet causes.sticky causes.recordQuarantined s.linePending⟩
                { s.holdForRequest with causes := causes }) ∧
          causes.enable = s.causes.enable ∧ causes.lineEnable = s.causes.lineEnable ∧
          (∀ c : Sticky,
            causes.sticky[stickyIndex c] = (s.hasCause c && decide (some (.sticky c) ∉ l))) ∧
          (causes.recordQuarantined = true ↔
            s.causes.recordQuarantined = true ∧
              (some .recordQuarantined ∉ l ∨ ∃ i r, s.recordAt i = some r ∧ r.life = .quarantined)) ∧
          ∀ t, exec (.ackCauses iss (.fields l)) s = .next t → t.AlertAgrees)) ∧
    (∀ l : List (Option Cause), s.admission (.setAlertMask iss (.fields l)) = .granted →
      ((none ∈ l ∨ some .recordQuarantined ∈ l) →
        exec (.setAlertMask iss (.fields l)) s = .next (s.holdForRequest.answer ⟨.badField, .empty⟩)) ∧
      (none ∉ l → some .recordQuarantined ∉ l →
        ∃ causes : CauseUnit,
          exec (.setAlertMask iss (.fields l)) s =
            .next (State.answer ⟨.ok, .empty⟩ { s.holdForRequest with causes := causes }) ∧
          causes.sticky = s.causes.sticky ∧ causes.recordQuarantined = s.causes.recordQuarantined ∧
          (∀ c : Sticky, causes.enable[stickyIndex c] = decide (some (.sticky c) ∈ l)) ∧
          causes.lineEnable = decide (some .linePending ∈ l) ∧
          ∀ t, exec (.setAlertMask iss (.fields l)) s = .next t → t.AlertAgrees)) ∧
    (s.admission (.clearTracking iss (.fields ())) = .granted →
      exec (.clearTracking iss (.fields ())) s =
        .next
          (State.answer ⟨.ok, .tracking s.banks⟩
            { s.holdForRequest with banks := Vector.replicate 4 { count := 0, overflow := false } }))

/-! ### The integrity block, order output and reset -/

/-- R168: of `n` corrections in a slot's bank, each is counted up to 255; one that finds the counter at 255 sets the overflow flag
and FIX_OVERFLOW. No other bank and no other cause changes. -/
def Obligations.CorrectionsAreCountedToTheirLimit : Prop :=
  ∀ (i : SlotId) (n : Nat) (s : State), s.BanksInRange →
    (s.countFixes i n).banks[bankOf i] =
      { count := min (s.banks[bankOf i].count + n) 255
        overflow := s.banks[bankOf i].overflow || decide (255 < s.banks[bankOf i].count + n) } ∧
    (∀ b, b ≠ bankOf i → (s.countFixes i n).banks[b] = s.banks[b]) ∧
    (s.countFixes i n).hasCause .fixOverflow =
      (s.hasCause .fixOverflow || decide (255 < s.banks[bankOf i].count + n)) ∧
    ∀ c, c ≠ .fixOverflow → (s.countFixes i n).hasCause c = s.hasCause c

/-- R76, R168, R170 to R173: a step that falls due presents the scrubber's claim; where the one before still waits, it is
withdrawn and its slot skipped. A granted step reads its slot through the check and goes on to the next: a FREE or
QUARANTINED slot and a clean one stay as they are, a correction is written back, a lost body makes the slot QUARANTINED,
a lost amendment is dropped. No other slot changes, and the table is released. (That SCRUB_STEP
changes nothing while its claim does not hold the table, and SCRUB_STEP_DUE nothing while the scrubber is off, is the
model's choice, notes/assumptions/11.md and notes/assumptions/14.md.) -/
def Obligations.ScrubberPresentsItsStepAndReadsOneSlot : Prop :=
  (∀ s : State, s.inReset = false →
     (s.scrub.enable = false → exec .scrubStepDue s = .next s) ∧
     (s.scrub.enable = true → s.tableFree = true →
       exec .scrubStepDue s =
         .next { s with
           arb := { s.arb with holder := .scrubber, waitScrub := false }
           scrub := { s.scrub with next := if s.arb.waitScrub then s.scrub.next + 1 else s.scrub.next } }) ∧
     (s.scrub.enable = true → s.tableFree = false →
       exec .scrubStepDue s =
         .next { s with
           arb := { s.arb with waitScrub := true }
           scrub := { s.scrub with next := if s.arb.waitScrub then s.scrub.next + 1 else s.scrub.next } })) ∧
  (∀ s : State, s.inReset = false →
     (s.arb.holder ≠ .scrubber → exec .scrubStep s = .next s) ∧
     (s.arb.holder = .scrubber →
       ∃ t, exec .scrubStep s = .next t ∧
         t.scrub = { s.scrub with next := s.scrub.next + 1 } ∧ (∀ j, j ≠ s.scrub.next → t.slots[j] = s.slots[j]) ∧
         t.arb = (State.releaseTable s).arb ∧ (s.TagMapAgrees → t.tagMap = s.tagMap) ∧
         t = { s with arb := t.arb, scrub := t.scrub, slots := t.slots, tagMap := t.tagMap, banks := t.banks,
                      causes := t.causes } ∧
         ((∀ r, s.recordAt s.scrub.next = some r →
             r.life = .quarantined ∨ r.check = .clean ∧ ∀ x, r.staged = some x → x.check = .clean) →
           t.slots = s.slots ∧ t.banks = s.banks ∧ t.causes = { s.causes with alert := t.causes.alert }) ∧
         (∀ r, s.recordAt s.scrub.next = some r → r.life ≠ .quarantined →
           (r.check = .uncorrectable →
             t.recordAt s.scrub.next = some { r with life := .quarantined, staged := none } ∧ t.banks = s.banks ∧
             t.causes.recordQuarantined = true) ∧
           (r.check ≠ .uncorrectable → (∀ x, r.staged = some x → x.check ≠ .uncorrectable) →
             t.recordAt s.scrub.next =
               some { r with check := .clean, staged := r.staged.map fun x => { x with check := .clean } } ∧
             t.banks =
               (State.countFixes s.scrub.next
                 ((if r.check = .singleBit then 1 else 0) +
                   if r.staged.map (·.check) = some .singleBit then 1 else 0) s).banks ∧
             t.hasCause .fixOverflow = (State.countFixes s.scrub.next r.corrections s).hasCause .fixOverflow) ∧
           (∀ x, r.check ≠ .uncorrectable → r.staged = some x → x.check = .uncorrectable →
             t.recordAt s.scrub.next = some { r with check := .clean, staged := none } ∧
             t.banks = (State.countFixes s.scrub.next r.corrections s).banks ∧
             t.hasCause .fixOverflow = (State.countFixes s.scrub.next r.corrections s).hasCause .fixOverflow ∧
             t.hasCause .stageLost = true))))

/-- R139, R189: as a frame ends, the first waiting frame begins, a stand-down frame before an order frame; with an order frame the
unit order lines take its orders. With none waiting the transmitter becomes IDLE; while it is IDLE nothing happens (the
model's choice, notes/assumptions/14.md). -/
def Obligations.FrameEndStartsTheNextFrame : Prop :=
  ∀ s : State, s.inReset = false →
    (s.out.sending = none → exec .frameTransmitDone s = .next s) ∧
    ∀ g, s.out.sending = some g →
      (∀ f, s.out.waitStandDown = some f →
        exec .frameTransmitDone s =
          .next { s with out := { s.out with sending := some f, waitStandDown := none } }) ∧
      (∀ f units, s.out.waitStandDown = none → s.out.waitOrder = some (f, units) →
        exec .frameTransmitDone s =
          .next { s with
            out := { s.out with sending := some f, waitOrder := none, sentSinceStart := true }
            pause := { s.pause with
              lines := Vector.ofFn fun u : Fin 12 =>
                { unload := decide (units[u].order = some .unload)
                  stop := decide (units[u].order = some .stop) } } }) ∧
      (s.out.waitStandDown = none → s.out.waitOrder = none →
        exec .frameTransmitDone s = .next { s with out := { s.out with sending := none } })

/-- R180, R192: power-on and a RESET pulse of 10 microseconds or more hold the part in reset, READY low and ALERT deasserted with an
empty cause set; one below 1 microsecond does nothing; one between may do either (a free value, notes/assumptions/1.md).
In reset nothing else acts. The part leaves reset in its reset state. (That every other state stands at its reset value
while RESET is held is the model's choice, notes/assumptions/8.md, as are what LEAVE_RESET does out of reset, the free value
counter and the queue.) -/
def Obligations.ResetHoldsAndReleasesThePart : Prop :=
  ∀ s : State,
    (∀ c held, (c = .powerOn ∨ ∃ ns, 10000 ≤ ns ∧ c = .resetLow ns) →
      held =
        { State.reset with
          inReset := true, ready := false, freeIndex := s.freeIndex, pending := s.pending
          causes := { State.reset.causes with sticky := Vector.replicate 12 false, alert := false } } →
      exec (.fullReset c) s = .next held ∧
      ∀ ns, 1000 ≤ ns → ns < 10000 →
        exec (.fullReset (.resetLow ns)) s = .next { s with freeIndex := s.freeIndex + 1 } ∨
        exec (.fullReset (.resetLow ns)) s = .next { held with freeIndex := s.freeIndex + 1 }) ∧
    (∀ ns, ns < 1000 → exec (.fullReset (.resetLow ns)) s = .next s) ∧
    (s.inReset = true →
      exec .leaveReset s = .next { State.reset with freeIndex := s.freeIndex, pending := s.pending }) ∧
    (s.inReset = false → exec .leaveReset s = .next s) ∧
    (∀ i, s.inReset = true → i ≠ .leaveReset → (∀ c, i ≠ .fullReset c) → exec i s = .next s)

/-! ### The laws every step keeps -/

/-- R180, law: ALERT is asserted exactly when RECORD_QUARANTINED is set or some set cause has its enable set; every step keeps it. -/
def Obligations.AlertAgreementIsKept : Prop :=
  ∀ s t : State, s.AlertAgrees → step s = .next t → t.AlertAgrees

/-- R75, R182: READY is low exactly while a request is in hand or the part is in reset; every step keeps it. -/
def Obligations.ReadyAgreementIsKept : Prop :=
  ∀ s t : State, s.ReadyAgrees → step s = .next t → t.ReadyAgrees

/-- R14 to R16: the tag map holds exactly the non-zero tags of the slots that are not FREE, each once; every step keeps it. -/
def Obligations.TagMapAgreementIsKept : Prop :=
  ∀ s t : State, s.TagMapAgrees → step s = .next t → t.TagMapAgrees

/-- R168, law: each bank tracking counter stays within 0 to 255; every step keeps it. -/
def Obligations.BankCountersStayInRange : Prop :=
  ∀ s t : State, s.BanksInRange → step s = .next t → t.BanksInRange

/-- R127 and R139, laws: each unit is on the assignment list of at most one slot, and on it once; a unit's order lines show UNLOAD
or STOP only while it is on a list, and never both at once (with the orders of a waiting frame, R189, being of units still
on a list). Every step keeps each law. -/
def Obligations.UnitListAndLineLawsAreKept : Prop :=
  (∀ s t : State, s.UnitsOnce → step s = .next t → t.UnitsOnce) ∧
  (∀ s t : State, s.LinesAgree → step s = .next t → t.LinesAgree)

/-- R62, R63, R65, R68: the interval timer runs exactly in RUN under INTERNAL and the mark window is open exactly in RUN under
FOLLOW; and at most one edge claim is presented or held, none in a state that raises no edge. Every step keeps both. -/
def Obligations.TimerAndEdgeClaimAgreementIsKept : Prop :=
  ∀ s t : State, s.TimerAgrees → step s = .next t → t.TimerAgrees ∧ (s.OneEdge → t.OneEdge)

/-- R59, R97, R101 to R104: the settings, live and staged, the manual setpoints, the inflow and the interval length stay in their
ranges, a safe value and a setpoint within their pass's maximum; every step keeps it. -/
def Obligations.SettingsStayInRange : Prop :=
  ∀ s t : State, s.SettingsInRange → step s = .next t → t.SettingsInRange

/-- R1, R7, R10, R12: with the settings in their ranges, every record keeps exactly the fields that its kind, target and start mode
give it, each in its range, and holds a staged amendment only in a state that may; every step keeps it. -/
def Obligations.RecordsStayWellFormed : Prop :=
  ∀ s t : State, s.SettingsInRange → s.RecordsFit → step s = .next t → t.RecordsFit

/-- R21, R59, R64, R68, R78, R97, R101, R102, R104, R116, R124, R127, R135, R136, R139, R143, R154, R158, R168, R172, R175,
R182, R189, R192: the part leaves full reset with the values the chapters give, block by block, and every law holds there. -/
def Obligations.ResetStateIsAsTheChaptersGive : Prop :=
  State.reset.Sound ∧
  -- the window table, the engine and the arbiter
  (∀ i : SlotId, State.reset.slots[i] = { generation := 0, record := none }) ∧ State.reset.tagMap = [] ∧
  (∀ c : CondId, State.reset.latched[c] = false) ∧ State.reset.demand = none ∧
  State.reset.arb = { holder := .nobody, waitEdge := none, waitRequest := false, waitScrub := false } ∧
  State.reset.latches = [] ∧
  -- the timebase and the hold
  State.reset.time.opState = .standby ∧ State.reset.time.interval = 0 ∧ State.reset.time.lastEdge = none ∧
  State.reset.time.lengthMin = 15 ∧ State.reset.time.source = .internal ∧ State.reset.time.timerRunning = false ∧
  State.reset.time.windowOpen = false ∧ State.reset.time.markFilter = { previous := none, level := false } ∧
  State.reset.time.holdLine = { previous := none, level := false } ∧ State.reset.time.hostHold = false ∧
  -- the apportioner
  State.reset.flow.heldInflow = none ∧ State.reset.flow.reportMarker = false ∧ State.reset.flow.age = 255 ∧
  State.reset.flow.fallbackFlag = false ∧ State.reset.flow.record = none ∧ State.reset.flow.live.residual = 0 ∧
  State.reset.flow.live.fallback = 0 ∧ State.reset.flow.live.staleLimit = 2 ∧ State.reset.flow.live.style = .safe ∧
  (∀ p : PassId, State.reset.flow.live.passes[p] = { max := 0, rampUp := 0, rampDown := 0, safe := 0 } ∧
    State.reset.flow.bindings[p] = { live := .idle, setpoint := 0, pulse := false, staged := none } ∧
    State.reset.flow.delivered[p] = 0 ∧
    State.reset.flow.staged.passes[p] = { max := none, rampUp := none, rampDown := none, safe := none }) ∧
  (∀ u : UnitId, State.reset.flow.live.ratings[u] = 0 ∧ State.reset.flow.staged.ratings[u] = none) ∧
  (∀ c : ClassId, State.reset.flow.live.classMap[c] = (if c.val ≤ 3 then 0 else 1) ∧
    State.reset.flow.staged.classMap[c] = none) ∧
  State.reset.flow.staged.residual = none ∧ State.reset.flow.staged.fallback = none ∧
  State.reset.flow.staged.staleLimit = none ∧ State.reset.flow.staged.style = none ∧
  -- the pause block
  (∀ u : UnitId, State.reset.pause.availability[u] = .outOfService ∧
    State.reset.pause.lines[u] = { unload := false, stop := false }) ∧
  (∀ i : SlotId, State.reset.pause.lists[i] = []) ∧
  (∀ n : PhaseId, State.reset.pause.live[n] = none ∧ State.reset.pause.shadow[n] = none) ∧
  State.reset.pause.pointer = 0 ∧ State.reset.pause.loadPending = false ∧ State.reset.pause.report = none ∧
  State.reset.pause.orders = none ∧
  -- the sensor block
  (∀ m : LineId, State.reset.sensors[m] =
    { mode := .rise, enable := false, base := .slow, prescale := 0, filter := { previous := none, level := false },
      pending := false }) ∧
  (∀ c : Fin 7, State.reset.conditions[c] = { hostValue := false, source := .host }) ∧
  -- the integrity block and the cause unit
  (∀ b : BankId, State.reset.banks[b] = { count := 0, overflow := false }) ∧
  State.reset.scrub = { next := 0, enable := true } ∧
  (∀ c : Sticky, State.reset.hasCause c = decide (c = .restart) ∧
    State.reset.causes.enable[stickyIndex c] = true) ∧
  State.reset.causes.recordQuarantined = false ∧ State.reset.causes.lineEnable = true ∧
  State.reset.causes.alert = true ∧
  -- the request port, order output and RESET
  State.reset.port = .idle ∧ State.reset.ready = true ∧ State.reset.inReset = false ∧
  State.reset.out = { sending := none, waitStandDown := none, waitOrder := none, sentSinceStart := false }
end

