-- ==== Sys2Proof/Laws/State.lean ====
section
/-! SUPPORT. The frame of every named operation on the state: one lemma for each field it leaves as it was, so that no
later proof unfolds a record update to see that a field is unchanged. -/

namespace Sys2Proof.Machine

/-! ### setCause -/

@[simp] theorem State.setCause_inReset (c : Sticky) (s : State) : (State.setCause c s).inReset = s.inReset := rfl
@[simp] theorem State.setCause_port (c : Sticky) (s : State) : (State.setCause c s).port = s.port := rfl
@[simp] theorem State.setCause_ready (c : Sticky) (s : State) : (State.setCause c s).ready = s.ready := rfl
@[simp] theorem State.setCause_receiver (c : Sticky) (s : State) : (State.setCause c s).receiver = s.receiver := rfl
@[simp] theorem State.setCause_arb (c : Sticky) (s : State) : (State.setCause c s).arb = s.arb := rfl
@[simp] theorem State.setCause_latches (c : Sticky) (s : State) : (State.setCause c s).latches = s.latches := rfl
@[simp] theorem State.setCause_slots (c : Sticky) (s : State) : (State.setCause c s).slots = s.slots := rfl
@[simp] theorem State.setCause_tagMap (c : Sticky) (s : State) : (State.setCause c s).tagMap = s.tagMap := rfl
@[simp] theorem State.setCause_time (c : Sticky) (s : State) : (State.setCause c s).time = s.time := rfl
@[simp] theorem State.setCause_latched (c : Sticky) (s : State) : (State.setCause c s).latched = s.latched := rfl
@[simp] theorem State.setCause_demand (c : Sticky) (s : State) : (State.setCause c s).demand = s.demand := rfl
@[simp] theorem State.setCause_flow (c : Sticky) (s : State) : (State.setCause c s).flow = s.flow := rfl
@[simp] theorem State.setCause_pause (c : Sticky) (s : State) : (State.setCause c s).pause = s.pause := rfl
@[simp] theorem State.setCause_out (c : Sticky) (s : State) : (State.setCause c s).out = s.out := rfl
@[simp] theorem State.setCause_sensors (c : Sticky) (s : State) : (State.setCause c s).sensors = s.sensors := rfl
@[simp] theorem State.setCause_conditions (c : Sticky) (s : State) :
    (State.setCause c s).conditions = s.conditions := rfl
@[simp] theorem State.setCause_banks (c : Sticky) (s : State) : (State.setCause c s).banks = s.banks := rfl
@[simp] theorem State.setCause_scrub (c : Sticky) (s : State) : (State.setCause c s).scrub = s.scrub := rfl
@[simp] theorem State.setCause_freeIndex (c : Sticky) (s : State) : (State.setCause c s).freeIndex = s.freeIndex := rfl
@[simp] theorem State.setCause_pending (c : Sticky) (s : State) : (State.setCause c s).pending = s.pending := rfl

/-! ### setCauseIf -/

@[simp] theorem State.setCauseIf_frame (b : Bool) (c : Sticky) (s : State) :
    (State.setCauseIf b c s).inReset = s.inReset ∧
    (State.setCauseIf b c s).port = s.port ∧
    (State.setCauseIf b c s).ready = s.ready ∧
    (State.setCauseIf b c s).receiver = s.receiver ∧
    (State.setCauseIf b c s).arb = s.arb ∧
    (State.setCauseIf b c s).latches = s.latches ∧
    (State.setCauseIf b c s).slots = s.slots ∧
    (State.setCauseIf b c s).tagMap = s.tagMap ∧
    (State.setCauseIf b c s).time = s.time ∧
    (State.setCauseIf b c s).latched = s.latched ∧
    (State.setCauseIf b c s).demand = s.demand ∧
    (State.setCauseIf b c s).flow = s.flow ∧
    (State.setCauseIf b c s).pause = s.pause ∧
    (State.setCauseIf b c s).out = s.out ∧
    (State.setCauseIf b c s).sensors = s.sensors ∧
    (State.setCauseIf b c s).conditions = s.conditions ∧
    (State.setCauseIf b c s).banks = s.banks ∧
    (State.setCauseIf b c s).scrub = s.scrub ∧
    (State.setCauseIf b c s).freeIndex = s.freeIndex ∧
    (State.setCauseIf b c s).pending = s.pending := by unfold State.setCauseIf; split <;> simp

/-! ### setRecordQuarantined -/

@[simp] theorem State.setRecordQuarantined_inReset (s : State) :
    (State.setRecordQuarantined s).inReset = s.inReset := rfl
@[simp] theorem State.setRecordQuarantined_port (s : State) : (State.setRecordQuarantined s).port = s.port := rfl
@[simp] theorem State.setRecordQuarantined_ready (s : State) : (State.setRecordQuarantined s).ready = s.ready := rfl
@[simp] theorem State.setRecordQuarantined_receiver (s : State) :
    (State.setRecordQuarantined s).receiver = s.receiver := rfl
@[simp] theorem State.setRecordQuarantined_arb (s : State) : (State.setRecordQuarantined s).arb = s.arb := rfl
@[simp] theorem State.setRecordQuarantined_latches (s : State) :
    (State.setRecordQuarantined s).latches = s.latches := rfl
@[simp] theorem State.setRecordQuarantined_slots (s : State) : (State.setRecordQuarantined s).slots = s.slots := rfl
@[simp] theorem State.setRecordQuarantined_tagMap (s : State) : (State.setRecordQuarantined s).tagMap = s.tagMap := rfl
@[simp] theorem State.setRecordQuarantined_time (s : State) : (State.setRecordQuarantined s).time = s.time := rfl
@[simp] theorem State.setRecordQuarantined_latched (s : State) :
    (State.setRecordQuarantined s).latched = s.latched := rfl
@[simp] theorem State.setRecordQuarantined_demand (s : State) : (State.setRecordQuarantined s).demand = s.demand := rfl
@[simp] theorem State.setRecordQuarantined_flow (s : State) : (State.setRecordQuarantined s).flow = s.flow := rfl
@[simp] theorem State.setRecordQuarantined_pause (s : State) : (State.setRecordQuarantined s).pause = s.pause := rfl
@[simp] theorem State.setRecordQuarantined_out (s : State) : (State.setRecordQuarantined s).out = s.out := rfl
@[simp] theorem State.setRecordQuarantined_sensors (s : State) :
    (State.setRecordQuarantined s).sensors = s.sensors := rfl
@[simp] theorem State.setRecordQuarantined_conditions (s : State) :
    (State.setRecordQuarantined s).conditions = s.conditions := rfl
@[simp] theorem State.setRecordQuarantined_banks (s : State) : (State.setRecordQuarantined s).banks = s.banks := rfl
@[simp] theorem State.setRecordQuarantined_scrub (s : State) : (State.setRecordQuarantined s).scrub = s.scrub := rfl
@[simp] theorem State.setRecordQuarantined_freeIndex (s : State) :
    (State.setRecordQuarantined s).freeIndex = s.freeIndex := rfl
@[simp] theorem State.setRecordQuarantined_pending (s : State) :
    (State.setRecordQuarantined s).pending = s.pending := rfl

/-! ### driveAlert -/

@[simp] theorem State.driveAlert_inReset (s : State) : (State.driveAlert s).inReset = s.inReset := rfl
@[simp] theorem State.driveAlert_port (s : State) : (State.driveAlert s).port = s.port := rfl
@[simp] theorem State.driveAlert_ready (s : State) : (State.driveAlert s).ready = s.ready := rfl
@[simp] theorem State.driveAlert_receiver (s : State) : (State.driveAlert s).receiver = s.receiver := rfl
@[simp] theorem State.driveAlert_arb (s : State) : (State.driveAlert s).arb = s.arb := rfl
@[simp] theorem State.driveAlert_latches (s : State) : (State.driveAlert s).latches = s.latches := rfl
@[simp] theorem State.driveAlert_slots (s : State) : (State.driveAlert s).slots = s.slots := rfl
@[simp] theorem State.driveAlert_tagMap (s : State) : (State.driveAlert s).tagMap = s.tagMap := rfl
@[simp] theorem State.driveAlert_time (s : State) : (State.driveAlert s).time = s.time := rfl
@[simp] theorem State.driveAlert_latched (s : State) : (State.driveAlert s).latched = s.latched := rfl
@[simp] theorem State.driveAlert_demand (s : State) : (State.driveAlert s).demand = s.demand := rfl
@[simp] theorem State.driveAlert_flow (s : State) : (State.driveAlert s).flow = s.flow := rfl
@[simp] theorem State.driveAlert_pause (s : State) : (State.driveAlert s).pause = s.pause := rfl
@[simp] theorem State.driveAlert_out (s : State) : (State.driveAlert s).out = s.out := rfl
@[simp] theorem State.driveAlert_sensors (s : State) : (State.driveAlert s).sensors = s.sensors := rfl
@[simp] theorem State.driveAlert_conditions (s : State) : (State.driveAlert s).conditions = s.conditions := rfl
@[simp] theorem State.driveAlert_banks (s : State) : (State.driveAlert s).banks = s.banks := rfl
@[simp] theorem State.driveAlert_scrub (s : State) : (State.driveAlert s).scrub = s.scrub := rfl
@[simp] theorem State.driveAlert_freeIndex (s : State) : (State.driveAlert s).freeIndex = s.freeIndex := rfl
@[simp] theorem State.driveAlert_pending (s : State) : (State.driveAlert s).pending = s.pending := rfl

/-! ### countFix -/

@[simp] theorem State.countFix_frame (i : SlotId) (s : State) :
    (State.countFix i s).inReset = s.inReset ∧
    (State.countFix i s).port = s.port ∧
    (State.countFix i s).ready = s.ready ∧
    (State.countFix i s).receiver = s.receiver ∧
    (State.countFix i s).arb = s.arb ∧
    (State.countFix i s).latches = s.latches ∧
    (State.countFix i s).slots = s.slots ∧
    (State.countFix i s).tagMap = s.tagMap ∧
    (State.countFix i s).time = s.time ∧
    (State.countFix i s).latched = s.latched ∧
    (State.countFix i s).demand = s.demand ∧
    (State.countFix i s).flow = s.flow ∧
    (State.countFix i s).pause = s.pause ∧
    (State.countFix i s).out = s.out ∧
    (State.countFix i s).sensors = s.sensors ∧
    (State.countFix i s).conditions = s.conditions ∧
    (State.countFix i s).scrub = s.scrub ∧
    (State.countFix i s).freeIndex = s.freeIndex ∧
    (State.countFix i s).pending = s.pending := by unfold State.countFix; dsimp only; split <;> simp

/-! ### countFixes -/

@[simp] theorem State.countFixes_frame (i : SlotId) (n : Nat) (s : State) :
    (State.countFixes i n s).inReset = s.inReset ∧
    (State.countFixes i n s).port = s.port ∧
    (State.countFixes i n s).ready = s.ready ∧
    (State.countFixes i n s).receiver = s.receiver ∧
    (State.countFixes i n s).arb = s.arb ∧
    (State.countFixes i n s).latches = s.latches ∧
    (State.countFixes i n s).slots = s.slots ∧
    (State.countFixes i n s).tagMap = s.tagMap ∧
    (State.countFixes i n s).time = s.time ∧
    (State.countFixes i n s).latched = s.latched ∧
    (State.countFixes i n s).demand = s.demand ∧
    (State.countFixes i n s).flow = s.flow ∧
    (State.countFixes i n s).pause = s.pause ∧
    (State.countFixes i n s).out = s.out ∧
    (State.countFixes i n s).sensors = s.sensors ∧
    (State.countFixes i n s).conditions = s.conditions ∧
    (State.countFixes i n s).scrub = s.scrub ∧
    (State.countFixes i n s).freeIndex = s.freeIndex ∧
    (State.countFixes i n s).pending = s.pending := by
  induction n generalizing s with
  | zero => simp [State.countFixes]
  | succ n ih => simp [State.countFixes, ih]

/-! ### noteEffect -/

@[simp] theorem State.noteEffect_frame (i : SlotId) (e : SlotEffect) (s : State) :
    (State.noteEffect i e s).inReset = s.inReset ∧
    (State.noteEffect i e s).port = s.port ∧
    (State.noteEffect i e s).ready = s.ready ∧
    (State.noteEffect i e s).receiver = s.receiver ∧
    (State.noteEffect i e s).arb = s.arb ∧
    (State.noteEffect i e s).latches = s.latches ∧
    (State.noteEffect i e s).slots = s.slots ∧
    (State.noteEffect i e s).time = s.time ∧
    (State.noteEffect i e s).latched = s.latched ∧
    (State.noteEffect i e s).demand = s.demand ∧
    (State.noteEffect i e s).flow = s.flow ∧
    (State.noteEffect i e s).pause = s.pause ∧
    (State.noteEffect i e s).out = s.out ∧
    (State.noteEffect i e s).sensors = s.sensors ∧
    (State.noteEffect i e s).conditions = s.conditions ∧
    (State.noteEffect i e s).scrub = s.scrub ∧
    (State.noteEffect i e s).freeIndex = s.freeIndex ∧
    (State.noteEffect i e s).pending = s.pending := by
  unfold State.noteEffect; dsimp only; split <;> split <;> simp

/-! ### applyEffect -/

@[simp] theorem State.applyEffect_frame (i : SlotId) (e : SlotEffect) (s : State) :
    (State.applyEffect i e s).inReset = s.inReset ∧
    (State.applyEffect i e s).port = s.port ∧
    (State.applyEffect i e s).ready = s.ready ∧
    (State.applyEffect i e s).receiver = s.receiver ∧
    (State.applyEffect i e s).arb = s.arb ∧
    (State.applyEffect i e s).latches = s.latches ∧
    (State.applyEffect i e s).time = s.time ∧
    (State.applyEffect i e s).latched = s.latched ∧
    (State.applyEffect i e s).demand = s.demand ∧
    (State.applyEffect i e s).flow = s.flow ∧
    (State.applyEffect i e s).pause = s.pause ∧
    (State.applyEffect i e s).out = s.out ∧
    (State.applyEffect i e s).sensors = s.sensors ∧
    (State.applyEffect i e s).conditions = s.conditions ∧
    (State.applyEffect i e s).scrub = s.scrub ∧
    (State.applyEffect i e s).freeIndex = s.freeIndex ∧
    (State.applyEffect i e s).pending = s.pending := by
  simp [State.applyEffect]

/-- What the 64 slots report is taken up without touching a field outside the tag map, the banks and the causes. -/
theorem State.foldEffects_frame {α : Type} (f : State → α)
    (hf : ∀ s i e, f (State.noteEffect i e s) = f s) (es : SlotId → SlotEffect) (l : List SlotId) (s : State) :
    f (l.foldl (fun acc i => acc.noteEffect i (es i)) s) = f s := by
  induction l generalizing s with
  | nil => rfl
  | cons i l ih => simp [List.foldl_cons, ih, hf]

/-! ### presentEdge -/

@[simp] theorem State.presentEdge_frame (k : EdgeKind) (s : State) :
    (State.presentEdge k s).inReset = s.inReset ∧
    (State.presentEdge k s).port = s.port ∧
    (State.presentEdge k s).ready = s.ready ∧
    (State.presentEdge k s).receiver = s.receiver ∧
    (State.presentEdge k s).latches = s.latches ∧
    (State.presentEdge k s).slots = s.slots ∧
    (State.presentEdge k s).tagMap = s.tagMap ∧
    (State.presentEdge k s).time = s.time ∧
    (State.presentEdge k s).latched = s.latched ∧
    (State.presentEdge k s).demand = s.demand ∧
    (State.presentEdge k s).flow = s.flow ∧
    (State.presentEdge k s).pause = s.pause ∧
    (State.presentEdge k s).out = s.out ∧
    (State.presentEdge k s).sensors = s.sensors ∧
    (State.presentEdge k s).conditions = s.conditions ∧
    (State.presentEdge k s).banks = s.banks ∧
    (State.presentEdge k s).scrub = s.scrub ∧
    (State.presentEdge k s).causes = s.causes ∧
    (State.presentEdge k s).freeIndex = s.freeIndex ∧
    (State.presentEdge k s).pending = s.pending := by unfold State.presentEdge; split <;> simp

/-! ### presentRequest -/

@[simp] theorem State.presentRequest_frame (s : State) :
    (State.presentRequest s).inReset = s.inReset ∧
    (State.presentRequest s).port = s.port ∧
    (State.presentRequest s).ready = s.ready ∧
    (State.presentRequest s).receiver = s.receiver ∧
    (State.presentRequest s).latches = s.latches ∧
    (State.presentRequest s).slots = s.slots ∧
    (State.presentRequest s).tagMap = s.tagMap ∧
    (State.presentRequest s).time = s.time ∧
    (State.presentRequest s).latched = s.latched ∧
    (State.presentRequest s).demand = s.demand ∧
    (State.presentRequest s).flow = s.flow ∧
    (State.presentRequest s).pause = s.pause ∧
    (State.presentRequest s).out = s.out ∧
    (State.presentRequest s).sensors = s.sensors ∧
    (State.presentRequest s).conditions = s.conditions ∧
    (State.presentRequest s).banks = s.banks ∧
    (State.presentRequest s).scrub = s.scrub ∧
    (State.presentRequest s).causes = s.causes ∧
    (State.presentRequest s).freeIndex = s.freeIndex ∧
    (State.presentRequest s).pending = s.pending := by unfold State.presentRequest; split <;> simp

/-! ### presentScrub -/

@[simp] theorem State.presentScrub_frame (s : State) :
    (State.presentScrub s).inReset = s.inReset ∧
    (State.presentScrub s).port = s.port ∧
    (State.presentScrub s).ready = s.ready ∧
    (State.presentScrub s).receiver = s.receiver ∧
    (State.presentScrub s).latches = s.latches ∧
    (State.presentScrub s).slots = s.slots ∧
    (State.presentScrub s).tagMap = s.tagMap ∧
    (State.presentScrub s).time = s.time ∧
    (State.presentScrub s).latched = s.latched ∧
    (State.presentScrub s).demand = s.demand ∧
    (State.presentScrub s).flow = s.flow ∧
    (State.presentScrub s).pause = s.pause ∧
    (State.presentScrub s).out = s.out ∧
    (State.presentScrub s).sensors = s.sensors ∧
    (State.presentScrub s).conditions = s.conditions ∧
    (State.presentScrub s).banks = s.banks ∧
    (State.presentScrub s).scrub = s.scrub ∧
    (State.presentScrub s).causes = s.causes ∧
    (State.presentScrub s).freeIndex = s.freeIndex ∧
    (State.presentScrub s).pending = s.pending := by unfold State.presentScrub; split <;> simp

/-! ### grantNext -/

@[simp] theorem State.grantNext_frame (s : State) :
    (State.grantNext s).inReset = s.inReset ∧
    (State.grantNext s).port = s.port ∧
    (State.grantNext s).ready = s.ready ∧
    (State.grantNext s).receiver = s.receiver ∧
    (State.grantNext s).latches = s.latches ∧
    (State.grantNext s).slots = s.slots ∧
    (State.grantNext s).tagMap = s.tagMap ∧
    (State.grantNext s).time = s.time ∧
    (State.grantNext s).latched = s.latched ∧
    (State.grantNext s).demand = s.demand ∧
    (State.grantNext s).flow = s.flow ∧
    (State.grantNext s).pause = s.pause ∧
    (State.grantNext s).out = s.out ∧
    (State.grantNext s).sensors = s.sensors ∧
    (State.grantNext s).conditions = s.conditions ∧
    (State.grantNext s).banks = s.banks ∧
    (State.grantNext s).scrub = s.scrub ∧
    (State.grantNext s).causes = s.causes ∧
    (State.grantNext s).freeIndex = s.freeIndex ∧
    (State.grantNext s).pending = s.pending := by
  unfold State.grantNext
  repeat' split
  all_goals simp

/-! ### releaseTable -/

@[simp] theorem State.releaseTable_frame (s : State) :
    (State.releaseTable s).inReset = s.inReset ∧
    (State.releaseTable s).port = s.port ∧
    (State.releaseTable s).ready = s.ready ∧
    (State.releaseTable s).receiver = s.receiver ∧
    (State.releaseTable s).latches = s.latches ∧
    (State.releaseTable s).slots = s.slots ∧
    (State.releaseTable s).tagMap = s.tagMap ∧
    (State.releaseTable s).time = s.time ∧
    (State.releaseTable s).latched = s.latched ∧
    (State.releaseTable s).demand = s.demand ∧
    (State.releaseTable s).flow = s.flow ∧
    (State.releaseTable s).pause = s.pause ∧
    (State.releaseTable s).out = s.out ∧
    (State.releaseTable s).sensors = s.sensors ∧
    (State.releaseTable s).conditions = s.conditions ∧
    (State.releaseTable s).banks = s.banks ∧
    (State.releaseTable s).scrub = s.scrub ∧
    (State.releaseTable s).causes = s.causes ∧
    (State.releaseTable s).freeIndex = s.freeIndex ∧
    (State.releaseTable s).pending = s.pending := by simp [State.releaseTable]

/-! ### raiseEdge -/

@[simp] theorem State.raiseEdge_frame (k : EdgeKind) (s : State) :
    (State.raiseEdge k s).inReset = s.inReset ∧
    (State.raiseEdge k s).port = s.port ∧
    (State.raiseEdge k s).ready = s.ready ∧
    (State.raiseEdge k s).receiver = s.receiver ∧
    (State.raiseEdge k s).latches = s.latches ∧
    (State.raiseEdge k s).slots = s.slots ∧
    (State.raiseEdge k s).tagMap = s.tagMap ∧
    (State.raiseEdge k s).latched = s.latched ∧
    (State.raiseEdge k s).demand = s.demand ∧
    (State.raiseEdge k s).flow = s.flow ∧
    (State.raiseEdge k s).pause = s.pause ∧
    (State.raiseEdge k s).out = s.out ∧
    (State.raiseEdge k s).sensors = s.sensors ∧
    (State.raiseEdge k s).conditions = s.conditions ∧
    (State.raiseEdge k s).banks = s.banks ∧
    (State.raiseEdge k s).scrub = s.scrub ∧
    (State.raiseEdge k s).causes = s.causes ∧
    (State.raiseEdge k s).freeIndex = s.freeIndex ∧
    (State.raiseEdge k s).pending = s.pending := by simp [State.raiseEdge]

/-! ### startReleased -/

@[simp] theorem State.startReleased_frame (s : State) :
    (State.startReleased s).inReset = s.inReset ∧
    (State.startReleased s).port = s.port ∧
    (State.startReleased s).ready = s.ready ∧
    (State.startReleased s).receiver = s.receiver ∧
    (State.startReleased s).latches = s.latches ∧
    (State.startReleased s).slots = s.slots ∧
    (State.startReleased s).tagMap = s.tagMap ∧
    (State.startReleased s).latched = s.latched ∧
    (State.startReleased s).demand = s.demand ∧
    (State.startReleased s).flow = s.flow ∧
    (State.startReleased s).pause = s.pause ∧
    (State.startReleased s).out = s.out ∧
    (State.startReleased s).sensors = s.sensors ∧
    (State.startReleased s).conditions = s.conditions ∧
    (State.startReleased s).banks = s.banks ∧
    (State.startReleased s).scrub = s.scrub ∧
    (State.startReleased s).causes = s.causes ∧
    (State.startReleased s).freeIndex = s.freeIndex ∧
    (State.startReleased s).pending = s.pending := by unfold State.startReleased; split <;> simp

/-! ### takeHoldChange -/

@[simp] theorem State.takeHoldChange_frame (s : State) :
    (State.takeHoldChange s).inReset = s.inReset ∧
    (State.takeHoldChange s).port = s.port ∧
    (State.takeHoldChange s).ready = s.ready ∧
    (State.takeHoldChange s).receiver = s.receiver ∧
    (State.takeHoldChange s).latches = s.latches ∧
    (State.takeHoldChange s).slots = s.slots ∧
    (State.takeHoldChange s).tagMap = s.tagMap ∧
    (State.takeHoldChange s).latched = s.latched ∧
    (State.takeHoldChange s).demand = s.demand ∧
    (State.takeHoldChange s).flow = s.flow ∧
    (State.takeHoldChange s).pause = s.pause ∧
    (State.takeHoldChange s).out = s.out ∧
    (State.takeHoldChange s).sensors = s.sensors ∧
    (State.takeHoldChange s).conditions = s.conditions ∧
    (State.takeHoldChange s).banks = s.banks ∧
    (State.takeHoldChange s).scrub = s.scrub ∧
    (State.takeHoldChange s).causes = s.causes ∧
    (State.takeHoldChange s).freeIndex = s.freeIndex ∧
    (State.takeHoldChange s).pending = s.pending := by unfold State.takeHoldChange; split <;> simp

/-! ### changeHoldOwner -/

@[simp] theorem State.changeHoldOwner_frame (t : Timebase) (s : State) :
    (State.changeHoldOwner t s).inReset = s.inReset ∧
    (State.changeHoldOwner t s).port = s.port ∧
    (State.changeHoldOwner t s).ready = s.ready ∧
    (State.changeHoldOwner t s).receiver = s.receiver ∧
    (State.changeHoldOwner t s).latches = s.latches ∧
    (State.changeHoldOwner t s).slots = s.slots ∧
    (State.changeHoldOwner t s).tagMap = s.tagMap ∧
    (State.changeHoldOwner t s).latched = s.latched ∧
    (State.changeHoldOwner t s).demand = s.demand ∧
    (State.changeHoldOwner t s).flow = s.flow ∧
    (State.changeHoldOwner t s).pause = s.pause ∧
    (State.changeHoldOwner t s).out = s.out ∧
    (State.changeHoldOwner t s).sensors = s.sensors ∧
    (State.changeHoldOwner t s).conditions = s.conditions ∧
    (State.changeHoldOwner t s).banks = s.banks ∧
    (State.changeHoldOwner t s).scrub = s.scrub ∧
    (State.changeHoldOwner t s).causes = s.causes ∧
    (State.changeHoldOwner t s).freeIndex = s.freeIndex ∧
    (State.changeHoldOwner t s).pending = s.pending := by unfold State.changeHoldOwner; dsimp only; split <;> simp

/-! ### compareHold -/

@[simp] theorem State.compareHold_frame (s : State) :
    (State.compareHold s).inReset = s.inReset ∧
    (State.compareHold s).port = s.port ∧
    (State.compareHold s).ready = s.ready ∧
    (State.compareHold s).receiver = s.receiver ∧
    (State.compareHold s).latches = s.latches ∧
    (State.compareHold s).slots = s.slots ∧
    (State.compareHold s).tagMap = s.tagMap ∧
    (State.compareHold s).latched = s.latched ∧
    (State.compareHold s).demand = s.demand ∧
    (State.compareHold s).flow = s.flow ∧
    (State.compareHold s).pause = s.pause ∧
    (State.compareHold s).out = s.out ∧
    (State.compareHold s).sensors = s.sensors ∧
    (State.compareHold s).conditions = s.conditions ∧
    (State.compareHold s).banks = s.banks ∧
    (State.compareHold s).scrub = s.scrub ∧
    (State.compareHold s).causes = s.causes ∧
    (State.compareHold s).freeIndex = s.freeIndex ∧
    (State.compareHold s).pending = s.pending := by unfold State.compareHold; split <;> simp

/-! ### holdForRequest -/

@[simp] theorem State.holdForRequest_inReset (s : State) : (State.holdForRequest s).inReset = s.inReset := rfl
@[simp] theorem State.holdForRequest_port (s : State) : (State.holdForRequest s).port = s.port := rfl
@[simp] theorem State.holdForRequest_ready (s : State) : (State.holdForRequest s).ready = s.ready := rfl
@[simp] theorem State.holdForRequest_receiver (s : State) : (State.holdForRequest s).receiver = s.receiver := rfl
@[simp] theorem State.holdForRequest_latches (s : State) : (State.holdForRequest s).latches = s.latches := rfl
@[simp] theorem State.holdForRequest_slots (s : State) : (State.holdForRequest s).slots = s.slots := rfl
@[simp] theorem State.holdForRequest_tagMap (s : State) : (State.holdForRequest s).tagMap = s.tagMap := rfl
@[simp] theorem State.holdForRequest_time (s : State) : (State.holdForRequest s).time = s.time := rfl
@[simp] theorem State.holdForRequest_latched (s : State) : (State.holdForRequest s).latched = s.latched := rfl
@[simp] theorem State.holdForRequest_demand (s : State) : (State.holdForRequest s).demand = s.demand := rfl
@[simp] theorem State.holdForRequest_flow (s : State) : (State.holdForRequest s).flow = s.flow := rfl
@[simp] theorem State.holdForRequest_pause (s : State) : (State.holdForRequest s).pause = s.pause := rfl
@[simp] theorem State.holdForRequest_out (s : State) : (State.holdForRequest s).out = s.out := rfl
@[simp] theorem State.holdForRequest_sensors (s : State) : (State.holdForRequest s).sensors = s.sensors := rfl
@[simp] theorem State.holdForRequest_conditions (s : State) : (State.holdForRequest s).conditions = s.conditions := rfl
@[simp] theorem State.holdForRequest_banks (s : State) : (State.holdForRequest s).banks = s.banks := rfl
@[simp] theorem State.holdForRequest_scrub (s : State) : (State.holdForRequest s).scrub = s.scrub := rfl
@[simp] theorem State.holdForRequest_causes (s : State) : (State.holdForRequest s).causes = s.causes := rfl
@[simp] theorem State.holdForRequest_freeIndex (s : State) : (State.holdForRequest s).freeIndex = s.freeIndex := rfl
@[simp] theorem State.holdForRequest_pending (s : State) : (State.holdForRequest s).pending = s.pending := rfl

/-! ### queueRequest -/

@[simp] theorem State.queueRequest_frame (i : Instr) (s : State) :
    (State.queueRequest i s).inReset = s.inReset ∧
    (State.queueRequest i s).receiver = s.receiver ∧
    (State.queueRequest i s).latches = s.latches ∧
    (State.queueRequest i s).slots = s.slots ∧
    (State.queueRequest i s).tagMap = s.tagMap ∧
    (State.queueRequest i s).time = s.time ∧
    (State.queueRequest i s).latched = s.latched ∧
    (State.queueRequest i s).demand = s.demand ∧
    (State.queueRequest i s).flow = s.flow ∧
    (State.queueRequest i s).pause = s.pause ∧
    (State.queueRequest i s).out = s.out ∧
    (State.queueRequest i s).sensors = s.sensors ∧
    (State.queueRequest i s).conditions = s.conditions ∧
    (State.queueRequest i s).banks = s.banks ∧
    (State.queueRequest i s).scrub = s.scrub ∧
    (State.queueRequest i s).causes = s.causes ∧
    (State.queueRequest i s).freeIndex = s.freeIndex ∧
    (State.queueRequest i s).pending = s.pending := by simp [State.queueRequest]

/-! ### answer -/

@[simp] theorem State.answer_frame (r : Response) (s : State) :
    (State.answer r s).inReset = s.inReset ∧
    (State.answer r s).receiver = s.receiver ∧
    (State.answer r s).latches = s.latches ∧
    (State.answer r s).slots = s.slots ∧
    (State.answer r s).tagMap = s.tagMap ∧
    (State.answer r s).time = s.time ∧
    (State.answer r s).latched = s.latched ∧
    (State.answer r s).demand = s.demand ∧
    (State.answer r s).flow = s.flow ∧
    (State.answer r s).pause = s.pause ∧
    (State.answer r s).out = s.out ∧
    (State.answer r s).sensors = s.sensors ∧
    (State.answer r s).conditions = s.conditions ∧
    (State.answer r s).banks = s.banks ∧
    (State.answer r s).scrub = s.scrub ∧
    (State.answer r s).causes = s.causes ∧
    (State.answer r s).freeIndex = s.freeIndex ∧
    (State.answer r s).pending = s.pending := by simp [State.answer]

/-! ### openSlot -/

@[simp] theorem State.openSlot_frame (i : SlotId) (iss : Issuer) (tag : BitVec 16) (t : Target) (b : RecordBody) (s : State) :
    (State.openSlot i iss tag t b s).inReset = s.inReset ∧
    (State.openSlot i iss tag t b s).port = s.port ∧
    (State.openSlot i iss tag t b s).ready = s.ready ∧
    (State.openSlot i iss tag t b s).receiver = s.receiver ∧
    (State.openSlot i iss tag t b s).arb = s.arb ∧
    (State.openSlot i iss tag t b s).latches = s.latches ∧
    (State.openSlot i iss tag t b s).time = s.time ∧
    (State.openSlot i iss tag t b s).latched = s.latched ∧
    (State.openSlot i iss tag t b s).demand = s.demand ∧
    (State.openSlot i iss tag t b s).flow = s.flow ∧
    (State.openSlot i iss tag t b s).pause = s.pause ∧
    (State.openSlot i iss tag t b s).out = s.out ∧
    (State.openSlot i iss tag t b s).sensors = s.sensors ∧
    (State.openSlot i iss tag t b s).conditions = s.conditions ∧
    (State.openSlot i iss tag t b s).banks = s.banks ∧
    (State.openSlot i iss tag t b s).scrub = s.scrub ∧
    (State.openSlot i iss tag t b s).causes = s.causes ∧
    (State.openSlot i iss tag t b s).freeIndex = s.freeIndex ∧
    (State.openSlot i iss tag t b s).pending = s.pending := by simp [State.openSlot]

/-! ### setScrubber -/

@[simp] theorem State.setScrubber_frame (on : Bool) (s : State) :
    (State.setScrubber on s).inReset = s.inReset ∧
    (State.setScrubber on s).port = s.port ∧
    (State.setScrubber on s).ready = s.ready ∧
    (State.setScrubber on s).receiver = s.receiver ∧
    (State.setScrubber on s).latches = s.latches ∧
    (State.setScrubber on s).slots = s.slots ∧
    (State.setScrubber on s).tagMap = s.tagMap ∧
    (State.setScrubber on s).time = s.time ∧
    (State.setScrubber on s).latched = s.latched ∧
    (State.setScrubber on s).demand = s.demand ∧
    (State.setScrubber on s).flow = s.flow ∧
    (State.setScrubber on s).pause = s.pause ∧
    (State.setScrubber on s).out = s.out ∧
    (State.setScrubber on s).sensors = s.sensors ∧
    (State.setScrubber on s).conditions = s.conditions ∧
    (State.setScrubber on s).banks = s.banks ∧
    (State.setScrubber on s).causes = s.causes ∧
    (State.setScrubber on s).freeIndex = s.freeIndex ∧
    (State.setScrubber on s).pending = s.pending := by unfold State.setScrubber; split <;> simp

/-! ### setScrubberItem -/

@[simp] theorem State.setScrubberItem_frame (items : List (Setting × Nat)) (s : State) :
    (State.setScrubberItem items s).inReset = s.inReset ∧
    (State.setScrubberItem items s).port = s.port ∧
    (State.setScrubberItem items s).ready = s.ready ∧
    (State.setScrubberItem items s).receiver = s.receiver ∧
    (State.setScrubberItem items s).latches = s.latches ∧
    (State.setScrubberItem items s).slots = s.slots ∧
    (State.setScrubberItem items s).tagMap = s.tagMap ∧
    (State.setScrubberItem items s).time = s.time ∧
    (State.setScrubberItem items s).latched = s.latched ∧
    (State.setScrubberItem items s).demand = s.demand ∧
    (State.setScrubberItem items s).flow = s.flow ∧
    (State.setScrubberItem items s).pause = s.pause ∧
    (State.setScrubberItem items s).out = s.out ∧
    (State.setScrubberItem items s).sensors = s.sensors ∧
    (State.setScrubberItem items s).conditions = s.conditions ∧
    (State.setScrubberItem items s).banks = s.banks ∧
    (State.setScrubberItem items s).causes = s.causes ∧
    (State.setScrubberItem items s).freeIndex = s.freeIndex ∧
    (State.setScrubberItem items s).pending = s.pending := by unfold State.setScrubberItem; split <;> simp

/-! ### setFlowItems -/

@[simp] theorem State.setFlowItems_frame (items : List (Setting × Nat)) (s : State) :
    (State.setFlowItems items s).inReset = s.inReset ∧
    (State.setFlowItems items s).port = s.port ∧
    (State.setFlowItems items s).ready = s.ready ∧
    (State.setFlowItems items s).receiver = s.receiver ∧
    (State.setFlowItems items s).arb = s.arb ∧
    (State.setFlowItems items s).latches = s.latches ∧
    (State.setFlowItems items s).slots = s.slots ∧
    (State.setFlowItems items s).tagMap = s.tagMap ∧
    (State.setFlowItems items s).time = s.time ∧
    (State.setFlowItems items s).latched = s.latched ∧
    (State.setFlowItems items s).demand = s.demand ∧
    (State.setFlowItems items s).pause = s.pause ∧
    (State.setFlowItems items s).out = s.out ∧
    (State.setFlowItems items s).sensors = s.sensors ∧
    (State.setFlowItems items s).conditions = s.conditions ∧
    (State.setFlowItems items s).banks = s.banks ∧
    (State.setFlowItems items s).scrub = s.scrub ∧
    (State.setFlowItems items s).causes = s.causes ∧
    (State.setFlowItems items s).freeIndex = s.freeIndex ∧
    (State.setFlowItems items s).pending = s.pending := by unfold State.setFlowItems; split <;> simp

/-! ### setItems -/

@[simp] theorem State.setItems_frame (items : List (Setting × Nat)) (s : State) :
    (State.setItems items s).inReset = s.inReset ∧
    (State.setItems items s).port = s.port ∧
    (State.setItems items s).ready = s.ready ∧
    (State.setItems items s).receiver = s.receiver ∧
    (State.setItems items s).latches = s.latches ∧
    (State.setItems items s).slots = s.slots ∧
    (State.setItems items s).tagMap = s.tagMap ∧
    (State.setItems items s).latched = s.latched ∧
    (State.setItems items s).demand = s.demand ∧
    (State.setItems items s).pause = s.pause ∧
    (State.setItems items s).out = s.out ∧
    (State.setItems items s).sensors = s.sensors ∧
    (State.setItems items s).conditions = s.conditions ∧
    (State.setItems items s).banks = s.banks ∧
    (State.setItems items s).causes = s.causes ∧
    (State.setItems items s).freeIndex = s.freeIndex ∧
    (State.setItems items s).pending = s.pending := by simp [State.setItems]

/-! ### raiseEdgeCauses -/

@[simp] theorem State.raiseEdgeCauses_frame (r : IntervalRecord) (s : State) :
    (State.raiseEdgeCauses r s).inReset = s.inReset ∧
    (State.raiseEdgeCauses r s).port = s.port ∧
    (State.raiseEdgeCauses r s).ready = s.ready ∧
    (State.raiseEdgeCauses r s).receiver = s.receiver ∧
    (State.raiseEdgeCauses r s).arb = s.arb ∧
    (State.raiseEdgeCauses r s).latches = s.latches ∧
    (State.raiseEdgeCauses r s).slots = s.slots ∧
    (State.raiseEdgeCauses r s).tagMap = s.tagMap ∧
    (State.raiseEdgeCauses r s).time = s.time ∧
    (State.raiseEdgeCauses r s).latched = s.latched ∧
    (State.raiseEdgeCauses r s).demand = s.demand ∧
    (State.raiseEdgeCauses r s).flow = s.flow ∧
    (State.raiseEdgeCauses r s).pause = s.pause ∧
    (State.raiseEdgeCauses r s).out = s.out ∧
    (State.raiseEdgeCauses r s).sensors = s.sensors ∧
    (State.raiseEdgeCauses r s).conditions = s.conditions ∧
    (State.raiseEdgeCauses r s).banks = s.banks ∧
    (State.raiseEdgeCauses r s).scrub = s.scrub ∧
    (State.raiseEdgeCauses r s).freeIndex = s.freeIndex ∧
    (State.raiseEdgeCauses r s).pending = s.pending := by simp [State.raiseEdgeCauses]

/-! ### apportion -/

@[simp] theorem State.apportion_frame (d : DemandSet) (u : UnitOrderSet) (s : State) :
    (State.apportion d u s).inReset = s.inReset ∧
    (State.apportion d u s).port = s.port ∧
    (State.apportion d u s).ready = s.ready ∧
    (State.apportion d u s).receiver = s.receiver ∧
    (State.apportion d u s).arb = s.arb ∧
    (State.apportion d u s).latches = s.latches ∧
    (State.apportion d u s).slots = s.slots ∧
    (State.apportion d u s).tagMap = s.tagMap ∧
    (State.apportion d u s).time = s.time ∧
    (State.apportion d u s).latched = s.latched ∧
    (State.apportion d u s).demand = s.demand ∧
    (State.apportion d u s).pause = s.pause ∧
    (State.apportion d u s).out = s.out ∧
    (State.apportion d u s).sensors = s.sensors ∧
    (State.apportion d u s).conditions = s.conditions ∧
    (State.apportion d u s).banks = s.banks ∧
    (State.apportion d u s).scrub = s.scrub ∧
    (State.apportion d u s).freeIndex = s.freeIndex ∧
    (State.apportion d u s).pending = s.pending := by simp [State.apportion]

/-! ### writeBack -/

@[simp] theorem State.writeBack_frame (d : DemandSet) (r : IntervalRecord) (s : State) :
    (State.writeBack d r s).inReset = s.inReset ∧
    (State.writeBack d r s).port = s.port ∧
    (State.writeBack d r s).ready = s.ready ∧
    (State.writeBack d r s).receiver = s.receiver ∧
    (State.writeBack d r s).arb = s.arb ∧
    (State.writeBack d r s).latches = s.latches ∧
    (State.writeBack d r s).tagMap = s.tagMap ∧
    (State.writeBack d r s).time = s.time ∧
    (State.writeBack d r s).latched = s.latched ∧
    (State.writeBack d r s).demand = s.demand ∧
    (State.writeBack d r s).flow = s.flow ∧
    (State.writeBack d r s).pause = s.pause ∧
    (State.writeBack d r s).out = s.out ∧
    (State.writeBack d r s).sensors = s.sensors ∧
    (State.writeBack d r s).conditions = s.conditions ∧
    (State.writeBack d r s).banks = s.banks ∧
    (State.writeBack d r s).scrub = s.scrub ∧
    (State.writeBack d r s).causes = s.causes ∧
    (State.writeBack d r s).freeIndex = s.freeIndex ∧
    (State.writeBack d r s).pending = s.pending := by simp [State.writeBack]

/-! ### pauseWork -/

@[simp] theorem State.pauseWork_frame (d : DemandSet) (s : State) :
    (State.pauseWork d s).inReset = s.inReset ∧
    (State.pauseWork d s).port = s.port ∧
    (State.pauseWork d s).ready = s.ready ∧
    (State.pauseWork d s).receiver = s.receiver ∧
    (State.pauseWork d s).arb = s.arb ∧
    (State.pauseWork d s).latches = s.latches ∧
    (State.pauseWork d s).slots = s.slots ∧
    (State.pauseWork d s).tagMap = s.tagMap ∧
    (State.pauseWork d s).time = s.time ∧
    (State.pauseWork d s).latched = s.latched ∧
    (State.pauseWork d s).demand = s.demand ∧
    (State.pauseWork d s).flow = s.flow ∧
    (State.pauseWork d s).out = s.out ∧
    (State.pauseWork d s).sensors = s.sensors ∧
    (State.pauseWork d s).conditions = s.conditions ∧
    (State.pauseWork d s).banks = s.banks ∧
    (State.pauseWork d s).scrub = s.scrub ∧
    (State.pauseWork d s).freeIndex = s.freeIndex ∧
    (State.pauseWork d s).pending = s.pending := by simp [State.pauseWork]

/-! ### beginOrder -/

@[simp] theorem State.beginOrder_frame (f : OrderFrame) (us : Vector UnitOrder 12) (s : State) :
    (State.beginOrder f us s).inReset = s.inReset ∧
    (State.beginOrder f us s).port = s.port ∧
    (State.beginOrder f us s).ready = s.ready ∧
    (State.beginOrder f us s).receiver = s.receiver ∧
    (State.beginOrder f us s).arb = s.arb ∧
    (State.beginOrder f us s).latches = s.latches ∧
    (State.beginOrder f us s).slots = s.slots ∧
    (State.beginOrder f us s).tagMap = s.tagMap ∧
    (State.beginOrder f us s).time = s.time ∧
    (State.beginOrder f us s).latched = s.latched ∧
    (State.beginOrder f us s).demand = s.demand ∧
    (State.beginOrder f us s).flow = s.flow ∧
    (State.beginOrder f us s).sensors = s.sensors ∧
    (State.beginOrder f us s).conditions = s.conditions ∧
    (State.beginOrder f us s).banks = s.banks ∧
    (State.beginOrder f us s).scrub = s.scrub ∧
    (State.beginOrder f us s).causes = s.causes ∧
    (State.beginOrder f us s).freeIndex = s.freeIndex ∧
    (State.beginOrder f us s).pending = s.pending := by simp [State.beginOrder]

/-! ### handFrame -/

@[simp] theorem State.handFrame_frame (f : OrderFrame) (us : Vector UnitOrder 12) (s : State) :
    (State.handFrame f us s).inReset = s.inReset ∧
    (State.handFrame f us s).port = s.port ∧
    (State.handFrame f us s).ready = s.ready ∧
    (State.handFrame f us s).receiver = s.receiver ∧
    (State.handFrame f us s).arb = s.arb ∧
    (State.handFrame f us s).latches = s.latches ∧
    (State.handFrame f us s).slots = s.slots ∧
    (State.handFrame f us s).tagMap = s.tagMap ∧
    (State.handFrame f us s).time = s.time ∧
    (State.handFrame f us s).latched = s.latched ∧
    (State.handFrame f us s).demand = s.demand ∧
    (State.handFrame f us s).flow = s.flow ∧
    (State.handFrame f us s).sensors = s.sensors ∧
    (State.handFrame f us s).conditions = s.conditions ∧
    (State.handFrame f us s).banks = s.banks ∧
    (State.handFrame f us s).scrub = s.scrub ∧
    (State.handFrame f us s).causes = s.causes ∧
    (State.handFrame f us s).freeIndex = s.freeIndex ∧
    (State.handFrame f us s).pending = s.pending := by unfold State.handFrame; split <;> simp

/-! ### frameDone -/

@[simp] theorem State.frameDone_frame (s : State) :
    (State.frameDone s).inReset = s.inReset ∧
    (State.frameDone s).port = s.port ∧
    (State.frameDone s).ready = s.ready ∧
    (State.frameDone s).receiver = s.receiver ∧
    (State.frameDone s).arb = s.arb ∧
    (State.frameDone s).latches = s.latches ∧
    (State.frameDone s).slots = s.slots ∧
    (State.frameDone s).tagMap = s.tagMap ∧
    (State.frameDone s).time = s.time ∧
    (State.frameDone s).latched = s.latched ∧
    (State.frameDone s).demand = s.demand ∧
    (State.frameDone s).flow = s.flow ∧
    (State.frameDone s).sensors = s.sensors ∧
    (State.frameDone s).conditions = s.conditions ∧
    (State.frameDone s).banks = s.banks ∧
    (State.frameDone s).scrub = s.scrub ∧
    (State.frameDone s).causes = s.causes ∧
    (State.frameDone s).freeIndex = s.freeIndex ∧
    (State.frameDone s).pending = s.pending := by
  unfold State.frameDone
  repeat' split
  all_goals simp

/-! ### walk -/

@[simp] theorem State.walk_frame (v : PassView) (s : State) :
    (State.walk v s).inReset = s.inReset ∧
    (State.walk v s).port = s.port ∧
    (State.walk v s).ready = s.ready ∧
    (State.walk v s).receiver = s.receiver ∧
    (State.walk v s).arb = s.arb ∧
    (State.walk v s).latches = s.latches ∧
    (State.walk v s).time = s.time ∧
    (State.walk v s).latched = s.latched ∧
    (State.walk v s).demand = s.demand ∧
    (State.walk v s).flow = s.flow ∧
    (State.walk v s).pause = s.pause ∧
    (State.walk v s).out = s.out ∧
    (State.walk v s).sensors = s.sensors ∧
    (State.walk v s).conditions = s.conditions ∧
    (State.walk v s).scrub = s.scrub ∧
    (State.walk v s).freeIndex = s.freeIndex ∧
    (State.walk v s).pending = s.pending := by
  unfold State.walk
  refine ⟨?_, ?_, ?_, ?_, ?_, ?_, ?_, ?_, ?_, ?_, ?_, ?_, ?_, ?_, ?_, ?_, ?_⟩
  · exact State.foldEffects_frame (fun s => s.inReset) (by simp) _ _ _
  · exact State.foldEffects_frame (fun s => s.port) (by simp) _ _ _
  · exact State.foldEffects_frame (fun s => s.ready) (by simp) _ _ _
  · exact State.foldEffects_frame (fun s => s.receiver) (by simp) _ _ _
  · exact State.foldEffects_frame (fun s => s.arb) (by simp) _ _ _
  · exact State.foldEffects_frame (fun s => s.latches) (by simp) _ _ _
  · exact State.foldEffects_frame (fun s => s.time) (by simp) _ _ _
  · exact State.foldEffects_frame (fun s => s.latched) (by simp) _ _ _
  · exact State.foldEffects_frame (fun s => s.demand) (by simp) _ _ _
  · exact State.foldEffects_frame (fun s => s.flow) (by simp) _ _ _
  · exact State.foldEffects_frame (fun s => s.pause) (by simp) _ _ _
  · exact State.foldEffects_frame (fun s => s.out) (by simp) _ _ _
  · exact State.foldEffects_frame (fun s => s.sensors) (by simp) _ _ _
  · exact State.foldEffects_frame (fun s => s.conditions) (by simp) _ _ _
  · exact State.foldEffects_frame (fun s => s.scrub) (by simp) _ _ _
  · exact State.foldEffects_frame (fun s => s.freeIndex) (by simp) _ _ _
  · exact State.foldEffects_frame (fun s => s.pending) (by simp) _ _ _


/-! ### latchTable -/

@[simp] theorem State.latchTable_frame (m : LineId) (s : State) :
    (State.latchTable m s).inReset = s.inReset ∧
    (State.latchTable m s).port = s.port ∧
    (State.latchTable m s).ready = s.ready ∧
    (State.latchTable m s).receiver = s.receiver ∧
    (State.latchTable m s).arb = s.arb ∧
    (State.latchTable m s).latches = s.latches ∧
    (State.latchTable m s).time = s.time ∧
    (State.latchTable m s).latched = s.latched ∧
    (State.latchTable m s).demand = s.demand ∧
    (State.latchTable m s).flow = s.flow ∧
    (State.latchTable m s).pause = s.pause ∧
    (State.latchTable m s).out = s.out ∧
    (State.latchTable m s).sensors = s.sensors ∧
    (State.latchTable m s).conditions = s.conditions ∧
    (State.latchTable m s).scrub = s.scrub ∧
    (State.latchTable m s).freeIndex = s.freeIndex ∧
    (State.latchTable m s).pending = s.pending := by
  unfold State.latchTable
  refine ⟨?_, ?_, ?_, ?_, ?_, ?_, ?_, ?_, ?_, ?_, ?_, ?_, ?_, ?_, ?_, ?_, ?_⟩
  · exact State.foldEffects_frame (fun s => s.inReset) (by simp) _ _ _
  · exact State.foldEffects_frame (fun s => s.port) (by simp) _ _ _
  · exact State.foldEffects_frame (fun s => s.ready) (by simp) _ _ _
  · exact State.foldEffects_frame (fun s => s.receiver) (by simp) _ _ _
  · exact State.foldEffects_frame (fun s => s.arb) (by simp) _ _ _
  · exact State.foldEffects_frame (fun s => s.latches) (by simp) _ _ _
  · exact State.foldEffects_frame (fun s => s.time) (by simp) _ _ _
  · exact State.foldEffects_frame (fun s => s.latched) (by simp) _ _ _
  · exact State.foldEffects_frame (fun s => s.demand) (by simp) _ _ _
  · exact State.foldEffects_frame (fun s => s.flow) (by simp) _ _ _
  · exact State.foldEffects_frame (fun s => s.pause) (by simp) _ _ _
  · exact State.foldEffects_frame (fun s => s.out) (by simp) _ _ _
  · exact State.foldEffects_frame (fun s => s.sensors) (by simp) _ _ _
  · exact State.foldEffects_frame (fun s => s.conditions) (by simp) _ _ _
  · exact State.foldEffects_frame (fun s => s.scrub) (by simp) _ _ _
  · exact State.foldEffects_frame (fun s => s.freeIndex) (by simp) _ _ _
  · exact State.foldEffects_frame (fun s => s.pending) (by simp) _ _ _


/-! ### openEdge -/

@[simp] theorem State.openEdge_frame (k : EdgeKind) (s : State) :
    (State.openEdge k s).inReset = s.inReset ∧
    (State.openEdge k s).port = s.port ∧
    (State.openEdge k s).ready = s.ready ∧
    (State.openEdge k s).receiver = s.receiver ∧
    (State.openEdge k s).arb = s.arb ∧
    (State.openEdge k s).latches = s.latches ∧
    (State.openEdge k s).slots = s.slots ∧
    (State.openEdge k s).tagMap = s.tagMap ∧
    (State.openEdge k s).latched = s.latched ∧
    (State.openEdge k s).demand = s.demand ∧
    (State.openEdge k s).pause = s.pause ∧
    (State.openEdge k s).sensors = s.sensors ∧
    (State.openEdge k s).conditions = s.conditions ∧
    (State.openEdge k s).banks = s.banks ∧
    (State.openEdge k s).scrub = s.scrub ∧
    (State.openEdge k s).causes = s.causes ∧
    (State.openEdge k s).freeIndex = s.freeIndex ∧
    (State.openEdge k s).pending = s.pending := by simp [State.openEdge]

/-! ### passEdge -/

@[simp] theorem State.passEdge_frame (k : EdgeKind) (s : State) :
    (State.passEdge k s).inReset = s.inReset ∧
    (State.passEdge k s).port = s.port ∧
    (State.passEdge k s).ready = s.ready ∧
    (State.passEdge k s).receiver = s.receiver ∧
    (State.passEdge k s).arb = s.arb ∧
    (State.passEdge k s).latches = s.latches ∧
    (State.passEdge k s).time = s.time ∧
    (State.passEdge k s).demand = s.demand ∧
    (State.passEdge k s).flow = s.flow ∧
    (State.passEdge k s).pause = s.pause ∧
    (State.passEdge k s).out = s.out ∧
    (State.passEdge k s).sensors = s.sensors ∧
    (State.passEdge k s).conditions = s.conditions ∧
    (State.passEdge k s).scrub = s.scrub ∧
    (State.passEdge k s).freeIndex = s.freeIndex ∧
    (State.passEdge k s).pending = s.pending := by simp [State.passEdge]

/-! ### serveEdge -/

@[simp] theorem State.serveEdge_frame (d : DemandSet) (s : State) :
    (State.serveEdge d s).inReset = s.inReset ∧
    (State.serveEdge d s).port = s.port ∧
    (State.serveEdge d s).ready = s.ready ∧
    (State.serveEdge d s).receiver = s.receiver ∧
    (State.serveEdge d s).arb = s.arb ∧
    (State.serveEdge d s).latches = s.latches ∧
    (State.serveEdge d s).tagMap = s.tagMap ∧
    (State.serveEdge d s).time = s.time ∧
    (State.serveEdge d s).latched = s.latched ∧
    (State.serveEdge d s).sensors = s.sensors ∧
    (State.serveEdge d s).conditions = s.conditions ∧
    (State.serveEdge d s).banks = s.banks ∧
    (State.serveEdge d s).scrub = s.scrub ∧
    (State.serveEdge d s).freeIndex = s.freeIndex ∧
    (State.serveEdge d s).pending = s.pending := by simp [State.serveEdge]

/-! ### edgeWork -/

@[simp] theorem State.edgeWork_frame (k : EdgeKind) (s : State) :
    (State.edgeWork k s).inReset = s.inReset ∧
    (State.edgeWork k s).port = s.port ∧
    (State.edgeWork k s).ready = s.ready ∧
    (State.edgeWork k s).receiver = s.receiver ∧
    (State.edgeWork k s).arb = s.arb ∧
    (State.edgeWork k s).latches = s.latches ∧
    (State.edgeWork k s).sensors = s.sensors ∧
    (State.edgeWork k s).conditions = s.conditions ∧
    (State.edgeWork k s).scrub = s.scrub ∧
    (State.edgeWork k s).freeIndex = s.freeIndex ∧
    (State.edgeWork k s).pending = s.pending := by simp [State.edgeWork]

/-! ### startNow -/

@[simp] theorem State.startNow_frame (s : State) :
    (State.startNow s).inReset = s.inReset ∧
    (State.startNow s).port = s.port ∧
    (State.startNow s).ready = s.ready ∧
    (State.startNow s).receiver = s.receiver ∧
    (State.startNow s).latches = s.latches ∧
    (State.startNow s).slots = s.slots ∧
    (State.startNow s).tagMap = s.tagMap ∧
    (State.startNow s).latched = s.latched ∧
    (State.startNow s).demand = s.demand ∧
    (State.startNow s).flow = s.flow ∧
    (State.startNow s).pause = s.pause ∧
    (State.startNow s).sensors = s.sensors ∧
    (State.startNow s).conditions = s.conditions ∧
    (State.startNow s).banks = s.banks ∧
    (State.startNow s).scrub = s.scrub ∧
    (State.startNow s).causes = s.causes ∧
    (State.startNow s).freeIndex = s.freeIndex ∧
    (State.startNow s).pending = s.pending := by unfold State.startNow; dsimp only; split <;> simp

/-! ### stopNow -/

@[simp] theorem State.stopNow_frame (s : State) :
    (State.stopNow s).inReset = s.inReset ∧
    (State.stopNow s).port = s.port ∧
    (State.stopNow s).ready = s.ready ∧
    (State.stopNow s).receiver = s.receiver ∧
    (State.stopNow s).latches = s.latches ∧
    (State.stopNow s).slots = s.slots ∧
    (State.stopNow s).tagMap = s.tagMap ∧
    (State.stopNow s).latched = s.latched ∧
    (State.stopNow s).demand = s.demand ∧
    (State.stopNow s).sensors = s.sensors ∧
    (State.stopNow s).conditions = s.conditions ∧
    (State.stopNow s).banks = s.banks ∧
    (State.stopNow s).scrub = s.scrub ∧
    (State.stopNow s).causes = s.causes ∧
    (State.stopNow s).freeIndex = s.freeIndex ∧
    (State.stopNow s).pending = s.pending := by simp [State.stopNow]

/-! ### takeMark -/

@[simp] theorem State.takeMark_frame (t : Nat) (s : State) :
    (State.takeMark t s).inReset = s.inReset ∧
    (State.takeMark t s).port = s.port ∧
    (State.takeMark t s).ready = s.ready ∧
    (State.takeMark t s).receiver = s.receiver ∧
    (State.takeMark t s).latches = s.latches ∧
    (State.takeMark t s).slots = s.slots ∧
    (State.takeMark t s).tagMap = s.tagMap ∧
    (State.takeMark t s).latched = s.latched ∧
    (State.takeMark t s).demand = s.demand ∧
    (State.takeMark t s).flow = s.flow ∧
    (State.takeMark t s).pause = s.pause ∧
    (State.takeMark t s).out = s.out ∧
    (State.takeMark t s).sensors = s.sensors ∧
    (State.takeMark t s).conditions = s.conditions ∧
    (State.takeMark t s).banks = s.banks ∧
    (State.takeMark t s).scrub = s.scrub ∧
    (State.takeMark t s).freeIndex = s.freeIndex ∧
    (State.takeMark t s).pending = s.pending := by
  unfold State.takeMark
  repeat' split
  all_goals simp

/-! ### beforeMark and beforeTransition -/

@[simp] theorem State.beforeMark_frame (s : State) :
    (s.beforeMark).inReset = s.inReset ∧
    (s.beforeMark).port = s.port ∧
    (s.beforeMark).ready = s.ready ∧
    (s.beforeMark).receiver = s.receiver ∧
    (s.beforeMark).arb = s.arb ∧
    (s.beforeMark).latches = s.latches ∧
    (s.beforeMark).slots = s.slots ∧
    (s.beforeMark).tagMap = s.tagMap ∧
    (s.beforeMark).latched = s.latched ∧
    (s.beforeMark).demand = s.demand ∧
    (s.beforeMark).flow = s.flow ∧
    (s.beforeMark).pause = s.pause ∧
    (s.beforeMark).out = s.out ∧
    (s.beforeMark).sensors = s.sensors ∧
    (s.beforeMark).conditions = s.conditions ∧
    (s.beforeMark).banks = s.banks ∧
    (s.beforeMark).scrub = s.scrub ∧
    (s.beforeMark).causes = s.causes ∧
    (s.beforeMark).freeIndex = s.freeIndex ∧
    (s.beforeMark).pending = s.pending := by
  simp [State.beforeMark]

@[simp] theorem State.beforeTransition_frame (m : LineId) (x : Bool) (s : State) :
    (s.beforeTransition m x).inReset = s.inReset ∧
    (s.beforeTransition m x).port = s.port ∧
    (s.beforeTransition m x).ready = s.ready ∧
    (s.beforeTransition m x).receiver = s.receiver ∧
    (s.beforeTransition m x).arb = s.arb ∧
    (s.beforeTransition m x).latches = s.latches ∧
    (s.beforeTransition m x).slots = s.slots ∧
    (s.beforeTransition m x).tagMap = s.tagMap ∧
    (s.beforeTransition m x).time = s.time ∧
    (s.beforeTransition m x).latched = s.latched ∧
    (s.beforeTransition m x).demand = s.demand ∧
    (s.beforeTransition m x).flow = s.flow ∧
    (s.beforeTransition m x).pause = s.pause ∧
    (s.beforeTransition m x).out = s.out ∧
    (s.beforeTransition m x).conditions = s.conditions ∧
    (s.beforeTransition m x).banks = s.banks ∧
    (s.beforeTransition m x).scrub = s.scrub ∧
    (s.beforeTransition m x).causes = s.causes ∧
    (s.beforeTransition m x).freeIndex = s.freeIndex ∧
    (s.beforeTransition m x).pending = s.pending := by
  simp [State.beforeTransition]

/-! ### sampleMark -/

@[simp] theorem State.sampleMark_frame (x : Bool) (t : Nat) (s : State) :
    (State.sampleMark x t s).inReset = s.inReset ∧
    (State.sampleMark x t s).port = s.port ∧
    (State.sampleMark x t s).ready = s.ready ∧
    (State.sampleMark x t s).receiver = s.receiver ∧
    (State.sampleMark x t s).latches = s.latches ∧
    (State.sampleMark x t s).slots = s.slots ∧
    (State.sampleMark x t s).tagMap = s.tagMap ∧
    (State.sampleMark x t s).latched = s.latched ∧
    (State.sampleMark x t s).demand = s.demand ∧
    (State.sampleMark x t s).flow = s.flow ∧
    (State.sampleMark x t s).pause = s.pause ∧
    (State.sampleMark x t s).out = s.out ∧
    (State.sampleMark x t s).sensors = s.sensors ∧
    (State.sampleMark x t s).conditions = s.conditions ∧
    (State.sampleMark x t s).banks = s.banks ∧
    (State.sampleMark x t s).scrub = s.scrub ∧
    (State.sampleMark x t s).freeIndex = s.freeIndex ∧
    (State.sampleMark x t s).pending = s.pending := by unfold State.sampleMark; dsimp only; split <;> simp

/-! ### sampleHold -/

@[simp] theorem State.sampleHold_frame (x : Bool) (s : State) :
    (State.sampleHold x s).inReset = s.inReset ∧
    (State.sampleHold x s).port = s.port ∧
    (State.sampleHold x s).ready = s.ready ∧
    (State.sampleHold x s).receiver = s.receiver ∧
    (State.sampleHold x s).latches = s.latches ∧
    (State.sampleHold x s).slots = s.slots ∧
    (State.sampleHold x s).tagMap = s.tagMap ∧
    (State.sampleHold x s).latched = s.latched ∧
    (State.sampleHold x s).demand = s.demand ∧
    (State.sampleHold x s).flow = s.flow ∧
    (State.sampleHold x s).pause = s.pause ∧
    (State.sampleHold x s).out = s.out ∧
    (State.sampleHold x s).sensors = s.sensors ∧
    (State.sampleHold x s).conditions = s.conditions ∧
    (State.sampleHold x s).banks = s.banks ∧
    (State.sampleHold x s).scrub = s.scrub ∧
    (State.sampleHold x s).causes = s.causes ∧
    (State.sampleHold x s).freeIndex = s.freeIndex ∧
    (State.sampleHold x s).pending = s.pending := by simp [State.sampleHold]

/-! ### sampleLine -/

@[simp] theorem State.sampleLine_frame (m : LineId) (x : Bool) (s : State) :
    (State.sampleLine m x s).inReset = s.inReset ∧
    (State.sampleLine m x s).port = s.port ∧
    (State.sampleLine m x s).ready = s.ready ∧
    (State.sampleLine m x s).receiver = s.receiver ∧
    (State.sampleLine m x s).arb = s.arb ∧
    (State.sampleLine m x s).slots = s.slots ∧
    (State.sampleLine m x s).tagMap = s.tagMap ∧
    (State.sampleLine m x s).time = s.time ∧
    (State.sampleLine m x s).latched = s.latched ∧
    (State.sampleLine m x s).demand = s.demand ∧
    (State.sampleLine m x s).flow = s.flow ∧
    (State.sampleLine m x s).pause = s.pause ∧
    (State.sampleLine m x s).out = s.out ∧
    (State.sampleLine m x s).conditions = s.conditions ∧
    (State.sampleLine m x s).banks = s.banks ∧
    (State.sampleLine m x s).scrub = s.scrub ∧
    (State.sampleLine m x s).freeIndex = s.freeIndex ∧
    (State.sampleLine m x s).pending = s.pending := by simp [State.sampleLine]

/-! ### lineEvent -/

@[simp] theorem State.lineEvent_frame (m : LineId) (h : LineHappening) (s : State) :
    (State.lineEvent m h s).inReset = s.inReset ∧
    (State.lineEvent m h s).port = s.port ∧
    (State.lineEvent m h s).ready = s.ready ∧
    (State.lineEvent m h s).receiver = s.receiver ∧
    (State.lineEvent m h s).arb = s.arb ∧
    (State.lineEvent m h s).slots = s.slots ∧
    (State.lineEvent m h s).tagMap = s.tagMap ∧
    (State.lineEvent m h s).time = s.time ∧
    (State.lineEvent m h s).latched = s.latched ∧
    (State.lineEvent m h s).demand = s.demand ∧
    (State.lineEvent m h s).flow = s.flow ∧
    (State.lineEvent m h s).pause = s.pause ∧
    (State.lineEvent m h s).out = s.out ∧
    (State.lineEvent m h s).conditions = s.conditions ∧
    (State.lineEvent m h s).banks = s.banks ∧
    (State.lineEvent m h s).scrub = s.scrub ∧
    (State.lineEvent m h s).freeIndex = s.freeIndex ∧
    (State.lineEvent m h s).pending = s.pending := by unfold State.lineEvent; split <;> simp

/-! ### takeLatch -/

@[simp] theorem State.takeLatch_frame (m : LineId) (s : State) :
    (State.takeLatch m s).inReset = s.inReset ∧
    (State.takeLatch m s).port = s.port ∧
    (State.takeLatch m s).ready = s.ready ∧
    (State.takeLatch m s).receiver = s.receiver ∧
    (State.takeLatch m s).time = s.time ∧
    (State.takeLatch m s).latched = s.latched ∧
    (State.takeLatch m s).demand = s.demand ∧
    (State.takeLatch m s).flow = s.flow ∧
    (State.takeLatch m s).pause = s.pause ∧
    (State.takeLatch m s).out = s.out ∧
    (State.takeLatch m s).sensors = s.sensors ∧
    (State.takeLatch m s).conditions = s.conditions ∧
    (State.takeLatch m s).scrub = s.scrub ∧
    (State.takeLatch m s).freeIndex = s.freeIndex ∧
    (State.takeLatch m s).pending = s.pending := by
  unfold State.takeLatch
  repeat' split
  all_goals simp

/-! ### skipScrub -/

@[simp] theorem State.skipScrub_frame (s : State) :
    (State.skipScrub s).inReset = s.inReset ∧
    (State.skipScrub s).port = s.port ∧
    (State.skipScrub s).ready = s.ready ∧
    (State.skipScrub s).receiver = s.receiver ∧
    (State.skipScrub s).latches = s.latches ∧
    (State.skipScrub s).slots = s.slots ∧
    (State.skipScrub s).tagMap = s.tagMap ∧
    (State.skipScrub s).time = s.time ∧
    (State.skipScrub s).latched = s.latched ∧
    (State.skipScrub s).demand = s.demand ∧
    (State.skipScrub s).flow = s.flow ∧
    (State.skipScrub s).pause = s.pause ∧
    (State.skipScrub s).out = s.out ∧
    (State.skipScrub s).sensors = s.sensors ∧
    (State.skipScrub s).conditions = s.conditions ∧
    (State.skipScrub s).banks = s.banks ∧
    (State.skipScrub s).causes = s.causes ∧
    (State.skipScrub s).freeIndex = s.freeIndex ∧
    (State.skipScrub s).pending = s.pending := by unfold State.skipScrub; split <;> simp

/-! ### scrubNow -/

@[simp] theorem State.scrubNow_frame (s : State) :
    (State.scrubNow s).inReset = s.inReset ∧
    (State.scrubNow s).port = s.port ∧
    (State.scrubNow s).ready = s.ready ∧
    (State.scrubNow s).receiver = s.receiver ∧
    (State.scrubNow s).arb = s.arb ∧
    (State.scrubNow s).latches = s.latches ∧
    (State.scrubNow s).time = s.time ∧
    (State.scrubNow s).latched = s.latched ∧
    (State.scrubNow s).demand = s.demand ∧
    (State.scrubNow s).flow = s.flow ∧
    (State.scrubNow s).pause = s.pause ∧
    (State.scrubNow s).out = s.out ∧
    (State.scrubNow s).sensors = s.sensors ∧
    (State.scrubNow s).conditions = s.conditions ∧
    (State.scrubNow s).freeIndex = s.freeIndex ∧
    (State.scrubNow s).pending = s.pending := by simp [State.scrubNow]

/-! ### takeFrame -/

@[simp] theorem State.takeFrame_frame (bytes : List Byte) (ok : Bool) (s : State) :
    (State.takeFrame bytes ok s).inReset = s.inReset ∧
    (State.takeFrame bytes ok s).receiver = s.receiver ∧
    (State.takeFrame bytes ok s).latches = s.latches ∧
    (State.takeFrame bytes ok s).slots = s.slots ∧
    (State.takeFrame bytes ok s).tagMap = s.tagMap ∧
    (State.takeFrame bytes ok s).time = s.time ∧
    (State.takeFrame bytes ok s).latched = s.latched ∧
    (State.takeFrame bytes ok s).demand = s.demand ∧
    (State.takeFrame bytes ok s).flow = s.flow ∧
    (State.takeFrame bytes ok s).pause = s.pause ∧
    (State.takeFrame bytes ok s).out = s.out ∧
    (State.takeFrame bytes ok s).sensors = s.sensors ∧
    (State.takeFrame bytes ok s).conditions = s.conditions ∧
    (State.takeFrame bytes ok s).banks = s.banks ∧
    (State.takeFrame bytes ok s).scrub = s.scrub ∧
    (State.takeFrame bytes ok s).causes = s.causes ∧
    (State.takeFrame bytes ok s).freeIndex = s.freeIndex ∧
    (State.takeFrame bytes ok s).pending = s.pending := by unfold State.takeFrame; split <;> simp

/-! ### endFrame -/

@[simp] theorem State.endFrame_frame (bytes : List Byte) (ok : Bool) (s : State) :
    (State.endFrame bytes ok s).inReset = s.inReset ∧
    (State.endFrame bytes ok s).latches = s.latches ∧
    (State.endFrame bytes ok s).slots = s.slots ∧
    (State.endFrame bytes ok s).tagMap = s.tagMap ∧
    (State.endFrame bytes ok s).time = s.time ∧
    (State.endFrame bytes ok s).latched = s.latched ∧
    (State.endFrame bytes ok s).demand = s.demand ∧
    (State.endFrame bytes ok s).flow = s.flow ∧
    (State.endFrame bytes ok s).pause = s.pause ∧
    (State.endFrame bytes ok s).out = s.out ∧
    (State.endFrame bytes ok s).sensors = s.sensors ∧
    (State.endFrame bytes ok s).conditions = s.conditions ∧
    (State.endFrame bytes ok s).banks = s.banks ∧
    (State.endFrame bytes ok s).scrub = s.scrub ∧
    (State.endFrame bytes ok s).causes = s.causes ∧
    (State.endFrame bytes ok s).freeIndex = s.freeIndex ∧
    (State.endFrame bytes ok s).pending = s.pending := by unfold State.endFrame; dsimp only; split <;> simp

/-! ### endSelect -/

@[simp] theorem State.endSelect_frame (bytes : List Byte) (ok : Bool) (s : State) :
    (State.endSelect bytes ok s).inReset = s.inReset ∧
    (State.endSelect bytes ok s).latches = s.latches ∧
    (State.endSelect bytes ok s).slots = s.slots ∧
    (State.endSelect bytes ok s).tagMap = s.tagMap ∧
    (State.endSelect bytes ok s).time = s.time ∧
    (State.endSelect bytes ok s).latched = s.latched ∧
    (State.endSelect bytes ok s).demand = s.demand ∧
    (State.endSelect bytes ok s).flow = s.flow ∧
    (State.endSelect bytes ok s).pause = s.pause ∧
    (State.endSelect bytes ok s).out = s.out ∧
    (State.endSelect bytes ok s).sensors = s.sensors ∧
    (State.endSelect bytes ok s).conditions = s.conditions ∧
    (State.endSelect bytes ok s).banks = s.banks ∧
    (State.endSelect bytes ok s).scrub = s.scrub ∧
    (State.endSelect bytes ok s).causes = s.causes ∧
    (State.endSelect bytes ok s).freeIndex = s.freeIndex ∧
    (State.endSelect bytes ok s).pending = s.pending := by
  unfold State.endSelect
  repeat' split
  all_goals simp

end Sys2Proof.Machine
end

