-- ==== Sys2Proof/Laws/Engine.lean ====
section
/-! SUPPORT. The demand set (R92 to R95): what each of its parts holds, said once by membership, and what the served_flow
write-back writes into a slot. -/

namespace Sys2Proof.Machine
/-- A contribution names the slot it is made of. -/
theorem contributionOf_slot {b f cm i sl c} (h : contributionOf b f cm i sl = some c) : c.slot = i := by
  unfold contributionOf at h
  repeat' split at h
  all_goals first | cases h; rfl | cases h

theorem Slot.recordIn_eq {sl : Slot} {l : Life} {r : Record} :
    sl.recordIn l = some r ↔ sl.record = some r ∧ r.life = l := by
  simp [Slot.recordIn, Option.filter_eq_some_iff]

/-- What makes a contribution (R20, R92). -/
theorem contributionOf_eq {b : Vector PassBinding 6} {f : Vector Bool 6} {cm : Vector Tier 8} {i : SlotId} {sl : Slot}
    {c : Contribution} :
    contributionOf b f cm i sl = some c ↔
      c.slot = i ∧ ∃ r, sl.record = some r ∧ r.life = .active ∧ r.target = .pass c.pass ∧ b[c.pass].live = .scheduled ∧
        f[c.pass] = false ∧ c.tier = cm[r.body.cls] ∧ c.flow = r.body.requestedFlow.getD 0 := by
  unfold contributionOf
  cases h : sl.recordIn .active with
  | none =>
    simp only [reduceCtorEq, false_iff, not_and, not_exists]
    intro _ r h1 h2
    rw [Slot.recordIn_eq.mpr ⟨h1, h2⟩] at h; cases h
  | some r =>
    obtain ⟨h1, h2⟩ := Slot.recordIn_eq.mp h
    simp only [h1, Option.some.injEq, exists_eq_left', h2, true_and]
    obtain ⟨cs, cp, ct, cf⟩ := c
    cases ht : r.target with
    | pass p =>
      by_cases hb : b[p].live = .scheduled ∧ f[p] = false
      · simp only [hb, and_self, ↓reduceIte, Option.some.injEq, Contribution.mk.injEq, Target.pass.injEq]
        constructor
        · rintro ⟨rfl, rfl, rfl, rfl⟩; exact ⟨rfl, rfl, hb.1, hb.2, rfl, rfl⟩
        · rintro ⟨rfl, rfl, _, _, rfl, rfl⟩; exact ⟨rfl, rfl, rfl, rfl⟩
      · simp only [hb, ↓reduceIte, reduceCtorEq, Target.pass.injEq, false_iff]
        rintro ⟨_, rfl, h3, h4, _⟩; exact hb ⟨h3, h4⟩
    | fixed u => simp
    | any => simp

theorem isLiveFlow_iff {sl : Slot} :
    isLiveFlow sl = true ↔ ∃ r, sl.record = some r ∧ r.target.kind = .passFlow ∧ r.life ≠ .quarantined := by
  unfold isLiveFlow
  cases h : sl.record <;> simp

/-- What presents a pause claim (R95). -/
theorem pauseClaimOf_eq {i : SlotId} {sl : Slot} {c : PauseClaim} :
    pauseClaimOf i sl = some c ↔
      c.slot = i ∧ ∃ r, sl.record = some r ∧ r.life = .active ∧ r.target = c.target ∧ r.target.kind = .unitPause ∧
        c.count = (if r.target = .any then r.body.pauseCount.getD 0 else 1) ∧
        c.unloadCount = r.body.unloadCount.getD 0 := by
  unfold pauseClaimOf
  cases h : sl.recordIn .active with
  | none =>
    simp only [reduceCtorEq, false_iff, not_and, not_exists]
    intro _ r h1 h2
    rw [Slot.recordIn_eq.mpr ⟨h1, h2⟩] at h; cases h
  | some r =>
    obtain ⟨h1, h2⟩ := Slot.recordIn_eq.mp h
    simp only [h1, Option.some.injEq, exists_eq_left', h2, true_and]
    obtain ⟨cs, ct, cc, cu⟩ := c
    cases ht : r.target with
    | pass p => simp [Target.kind]
    | fixed u =>
      simp only [Option.some.injEq, PauseClaim.mk.injEq, Target.kind, reduceCtorEq, ↓reduceIte, true_and]
      constructor
      · rintro ⟨rfl, rfl, rfl, rfl⟩; exact ⟨rfl, rfl, rfl, rfl⟩
      · rintro ⟨rfl, rfl, rfl, rfl⟩; exact ⟨rfl, rfl, rfl, rfl⟩
    | any =>
      simp only [Option.some.injEq, PauseClaim.mk.injEq, Target.kind, ↓reduceIte, true_and]
      constructor
      · rintro ⟨rfl, rfl, rfl, rfl⟩; exact ⟨rfl, rfl, rfl, rfl⟩
      · rintro ⟨rfl, rfl, rfl, rfl⟩; exact ⟨rfl, rfl, rfl, rfl⟩

theorem holdsPause_iff {sl : Slot} :
    holdsPause sl = true ↔ ∃ r, sl.record = some r ∧ r.target.kind = .unitPause := by
  unfold holdsPause
  cases h : sl.record <;> simp

/-! ### The parts of the demand set (R92, R94, R95) -/

section demand
variable {n : BitVec 32} {k : EdgeKind} {b : Vector PassBinding 6} {cm : Vector Tier 8} {before after : Vector Slot 64}

theorem mem_contributions {c : Contribution} :
    c ∈ (buildDemand n k b cm before after).contributions ↔
      contributionOf b (forcedSet after) cm c.slot after[c.slot] = some c := by
  simp only [buildDemand, indices, List.mem_filterMap, List.mem_finRange, true_and]
  constructor
  · rintro ⟨i, h⟩
    have hs := contributionOf_slot h
    subst hs
    exact h
  · intro h; exact ⟨_, h⟩

theorem mem_unserved {i : SlotId} :
    i ∈ (buildDemand n k b cm before after).unserved ↔
      isLiveFlow after[i] = true ∧ contributionOf b (forcedSet after) cm i after[i] = none := by
  simp [buildDemand, indices]

theorem forcedSet_iff {p : PassId} :
    (forcedSet after)[p] = true ↔ ∃ (i : SlotId) (r : Record), after[i].record = some r ∧ r.life = .quarantined ∧
      r.target = .pass p := by
  simp only [forcedSet, Fin.getElem_fin, Vector.getElem_ofFn, List.any_eq_true]
  constructor
  · rintro ⟨sl, hm, h⟩
    obtain ⟨i, hi, rfl⟩ := List.mem_iff_getElem.mp hm
    have hi' : i < 64 := by simpa using hi
    rw [Vector.getElem_toList] at h
    cases hr : (after[i]'hi').recordIn .quarantined with
    | none => simp [hr] at h
    | some r =>
      obtain ⟨h1, h2⟩ := Slot.recordIn_eq.mp hr
      simp only [hr, decide_eq_true_eq] at h
      exact ⟨⟨i, hi'⟩, r, h1, h2, h⟩
  · rintro ⟨i, r, h1, h2, h3⟩
    refine ⟨after[i.val], ?_, ?_⟩
    · simp [Vector.mem_toList_iff]
    · rw [Slot.recordIn_eq.mpr ⟨h1, h2⟩]
      simpa using h3

theorem mem_claims {c : PauseClaim} :
    c ∈ (buildDemand n k b cm before after).claims ↔ pauseClaimOf c.slot after[c.slot] = some c := by
  simp only [buildDemand, indices, List.mem_filterMap, List.mem_finRange, true_and]
  constructor
  · rintro ⟨i, h⟩
    have hs := (pauseClaimOf_eq.mp h).1
    subst hs
    exact h
  · intro h; exact ⟨_, h⟩

theorem mem_release {i : SlotId} :
    i ∈ (buildDemand n k b cm before after).release ↔ isReleased before[i] after[i] = true := by
  simp [buildDemand, indices]

theorem mem_held {i : SlotId} :
    i ∈ (buildDemand n k b cm before after).held ↔ isHeldPause after[i] = true := by
  simp [buildDemand, indices]

/-- A walk over the slots in ascending order lists what it finds in slot order. -/
theorem pairwise_slots {α : Type} (slot : α → SlotId) (f : SlotId → Option α) (hf : ∀ i a, f i = some a → slot a = i) :
    (((indices 64).filterMap f).map slot).Pairwise (· < ·) := by
  rw [List.pairwise_map, List.pairwise_filterMap]
  refine (List.pairwise_lt_finRange 64).imp ?_
  intro i j hij a ha b hb
  rw [hf i a ha, hf j b hb]
  exact hij

/-- The figure written for a slot: its contribution's, or 0 where it is unserved, or none (R93). -/
theorem writtenFigure_eq (r : IntervalRecord) (i : SlotId) :
    writtenFigure (buildDemand n k b cm before after) r i =
      match contributionOf b (forcedSet after) cm i after[i] with
      | some c => some (servedFigure (buildDemand n k b cm before after) r c)
      | none => if isLiveFlow after[i] then some 0 else none := by
  unfold writtenFigure
  cases h : contributionOf b (forcedSet after) cm i after[i] with
  | some c =>
    have hs := contributionOf_slot h
    subst hs
    have hm : c ∈ (buildDemand n k b cm before after).contributions := mem_contributions.mpr h
    have : (buildDemand n k b cm before after).contributions.find? (fun x => decide (x.slot = c.slot)) = some c := by
      cases hf : (buildDemand n k b cm before after).contributions.find? (fun x => decide (x.slot = c.slot)) with
      | none =>
        have := List.find?_eq_none.mp hf c hm
        simp at this
      | some c' =>
        have h1 := List.mem_of_find?_eq_some hf
        have h2 := List.find?_some hf
        simp at h2
        have := mem_contributions.mp h1
        simp only [h2, h, Option.some.injEq] at this
        rw [this]
    rw [this]
  | none =>
    have : (buildDemand n k b cm before after).contributions.find? (fun c => decide (c.slot = i)) = none := by
      rw [List.find?_eq_none]
      intro c hc hs
      simp at hs
      subst hs
      rw [mem_contributions.mp hc] at h
      cases h
    rw [this]
    dsimp only
    by_cases hl : isLiveFlow after[i] = true
    · rw [if_pos (mem_unserved.mpr ⟨hl, h⟩), if_pos hl]
    · rw [if_neg fun m => hl (mem_unserved.mp m).1, if_neg hl]

/-- Nothing is written into a slot that is FREE or holds a QUARANTINED record (R90, R93). -/
theorem writtenFigure_none {r : IntervalRecord} {i : SlotId}
    (h : ∀ x, after[i].record = some x → x.life = .quarantined) :
    writtenFigure (buildDemand n k b cm before after) r i = none := by
  rw [writtenFigure_eq]
  have h1 : contributionOf b (forcedSet after) cm i after[i] = none := by
    cases hc : contributionOf b (forcedSet after) cm i after[i] with
    | none => rfl
    | some c =>
      obtain ⟨-, x, hx, ha, -⟩ := contributionOf_eq.mp hc
      rw [h x hx] at ha; cases ha
  have h2 : isLiveFlow after[i] = false := by
    cases hl : isLiveFlow after[i] with
    | false => rfl
    | true =>
      obtain ⟨x, hx, -, hq⟩ := isLiveFlow_iff.mp hl
      exact absurd (h x hx) hq
  rw [h1, h2]; rfl
end demand

end Sys2Proof.Machine
end

