-- ==== Sys2Proof/Laws/Requests.lean ====
section
/-! SUPPORT. How a command's outcome is made of its work (Machine/Claims.lean), and the frame of each request's work: the fields it
leaves as they were, whatever it answers. -/

namespace Sys2Proof.Machine

/-! ### The outcome of a request -/

/-- A granted request's outcome is its work, answered. -/
theorem runRequest_granted {i : Instr} {work : State → State × Response} {s : State} (h : s.admission i = .granted) :
    runRequest i work s = .next ((work s.holdForRequest).1.answer (work s.holdForRequest).2) := by
  simp [runRequest, h]

/-- A request on a free part is granted at once. -/
theorem admit_of_free {i : Instr} {s : State} (h : s.free) : s.admission i = .granted := by
  obtain ⟨h1, h2, h3⟩ := h
  unfold State.admission
  simp only [h1, Bool.false_eq_true, ↓reduceIte]
  split
  · exact absurd ‹_› (h2 _)
  · simp [h3]

/-- A granted request finds the part out of reset. -/
theorem not_inReset_of_granted {i : Instr} {s : State} (h : s.admission i = .granted) : s.inReset = false := by
  unfold State.admission at h
  split at h
  · cases h
  · simpa using ‹¬s.inReset = true›

/-- A request queued finds the part out of reset with no request in hand. -/
theorem free_of_queued {i : Instr} {s : State} (h : s.admission i = .queued) : s.inReset = false ∧ s.portFree := by
  unfold State.admission at h
  split at h
  · cases h
  · refine ⟨by simpa using ‹¬s.inReset = true›, ?_⟩
    split at h
    · repeat' split at h
      all_goals cases h
    · exact fun h' e => ‹∀ h, s.port = .working h → False› h' e

/-- What a request's command can do: nothing, wait in the queue, or its work and the answer. -/
theorem runRequest_cases {i : Instr} {work : State → State × Response} {s t : State}
    (h : runRequest i work s = .next t) :
    t = s ∨ (s.admission i = .queued ∧ t = s.queueRequest i) ∨
      (s.admission i = .granted ∧ t = (work s.holdForRequest).1.answer (work s.holdForRequest).2) := by
  unfold runRequest at h
  cases ha : s.admission i <;> simp only [ha] at h <;> cases h <;> simp

/-- A property that a request's three outcomes keep. -/
theorem runRequest_keeps {P : State → Prop} {i : Instr} {work : State → State × Response} {s t : State}
    (hq : s.admission i = .queued → P (s.queueRequest i))
    (hw : s.admission i = .granted → P ((work s.holdForRequest).1.answer (work s.holdForRequest).2)) (hs : P s)
    (h : runRequest i work s = .next t) : P t := by
  obtain rfl | ⟨ha, rfl⟩ | ⟨ha, rfl⟩ := runRequest_cases h
  · exact hs
  · exact hq ha
  · exact hw ha

/-- A body that does not match is refused and nothing else happens; other bodies do their work. -/
theorem withFields_keeps {α : Type} {P : State → Prop} {b : Body α} {work : α → State → State × Response} {s : State}
    (hs : P s) (hw : ∀ a, P (work a s).1) : P (withFields b work s).1 := by
  cases b with
  | mismatch => exact hs
  | fields a => exact hw a

@[simp] theorem withFields_fields {α : Type} (a : α) (work : α → State → State × Response) (s : State) :
    withFields (.fields a) work s = work a s := rfl

@[simp] theorem withFields_mismatch {α : Type} (work : α → State → State × Response) (s : State) :
    withFields .mismatch work s = (s, .bare .badField) := rfl

/-- A property kept by an event outside the requests. -/
theorem outsideReset_keeps {P : State → Prop} {act : State → State} {s t : State} (hs : P s)
    (ha : s.inReset = false → P (act s)) (h : outsideReset s act = .next t) : P t := by
  unfold outsideReset at h
  split at h
  · cases h; exact hs
  · cases h; exact ha (by simpa using ‹¬s.inReset = true›)

/-- An event outside the requests, with the part out of reset. -/
theorem outsideReset_act {act : State → State} {s : State} (h : s.inReset = false) :
    outsideReset s act = .next (act s) := by
  simp [outsideReset, h]

/-! ### Each command in terms of its work -/

theorem exec_openWindow (iss : Issuer) (b : Body OpenFields) (s : State) :
    exec (.openWindow iss b) s =
      runRequest (.openWindow iss b) (withFields b (openWindow iss)) s := rfl

theorem exec_amendWindow (iss : Issuer) (b : Body AmendFields) (s : State) :
    exec (.amendWindow iss b) s =
      runRequest (.amendWindow iss b) (withFields b (amendWindow iss)) s := rfl

theorem exec_retireWindow (iss : Issuer) (b : Body RawHandle) (s : State) :
    exec (.retireWindow iss b) s =
      runRequest (.retireWindow iss b) (withFields b (retireWindow iss)) s := rfl

theorem exec_purge (iss : Issuer) (b : Body Unit) (s : State) :
    exec (.purge iss b) s =
      runRequest (.purge iss b) (withFields b purge) s := rfl

theorem exec_readWindow (iss : Issuer) (b : Body RawHandle) (s : State) :
    exec (.readWindow iss b) s =
      runRequest (.readWindow iss b) (withFields b readWindow) s := rfl

theorem exec_findTag (iss : Issuer) (b : Body (BitVec 16)) (s : State) :
    exec (.findTag iss b) s =
      runRequest (.findTag iss b) (withFields b findTag) s := rfl

theorem exec_listWindows (iss : Issuer) (b : Body ListFields) (s : State) :
    exec (.listWindows iss b) s =
      runRequest (.listWindows iss b) (withFields b listWindows) s := rfl

theorem exec_readInterval (iss : Issuer) (b : Body Unit) (s : State) :
    exec (.readInterval iss b) s =
      runRequest (.readInterval iss b) (withFields b readInterval) s := rfl

theorem exec_readStatus (iss : Issuer) (b : Body Unit) (s : State) :
    exec (.readStatus iss b) s =
      runRequest (.readStatus iss b) (withFields b readStatus) s := rfl

theorem exec_reportInflow (iss : Issuer) (b : Body (BitVec 16)) (s : State) :
    exec (.reportInflow iss b) s =
      runRequest (.reportInflow iss b) (withFields b reportInflow) s := rfl

theorem exec_reportUnits (iss : Issuer) (b : Body (List (Option Availability))) (s : State) :
    exec (.reportUnits iss b) s =
      runRequest (.reportUnits iss b) (withFields b reportUnits) s := rfl

theorem exec_setBinding (iss : Issuer) (b : Body BindingFields) (s : State) :
    exec (.setBinding iss b) s =
      runRequest (.setBinding iss b) (withFields b setBinding) s := rfl

theorem exec_setSettings (iss : Issuer) (bytes : List Byte) (s : State) :
    exec (.setSettings iss bytes) s =
      runRequest (.setSettings iss bytes) (setSettings bytes) s := rfl

theorem exec_loadRotation (iss : Issuer) (b : Body (List Nat)) (s : State) :
    exec (.loadRotation iss b) s =
      runRequest (.loadRotation iss b) (withFields b loadRotation) s := rfl

theorem exec_readRotation (iss : Issuer) (b : Body Unit) (s : State) :
    exec (.readRotation iss b) s =
      runRequest (.readRotation iss b) (withFields b readRotation) s := rfl

theorem exec_setLine (iss : Issuer) (b : Body LineFields) (s : State) :
    exec (.setLine iss b) s =
      runRequest (.setLine iss b) (withFields b setLine) s := rfl

theorem exec_readLines (iss : Issuer) (b : Body Unit) (s : State) :
    exec (.readLines iss b) s =
      runRequest (.readLines iss b) (withFields b readLines) s := rfl

theorem exec_ackLines (iss : Issuer) (b : Body (List Nat)) (s : State) :
    exec (.ackLines iss b) s =
      runRequest (.ackLines iss b) (withFields b ackLines) s := rfl

theorem exec_setCondition (iss : Issuer) (b : Body ConditionFields) (s : State) :
    exec (.setCondition iss b) s =
      runRequest (.setCondition iss b) (withFields b setCondition) s := rfl

theorem exec_setConditionSource (iss : Issuer) (b : Body SourceFields) (s : State) :
    exec (.setConditionSource iss b) s =
      runRequest (.setConditionSource iss b) (withFields b setConditionSource) s := rfl

theorem exec_start (iss : Issuer) (b : Body Unit) (s : State) :
    exec (.start iss b) s =
      runRequest (.start iss b) (withFields b start) s := rfl

theorem exec_stop (iss : Issuer) (b : Body Unit) (s : State) :
    exec (.stop iss b) s =
      runRequest (.stop iss b) (withFields b stop) s := rfl

theorem exec_holdOn (iss : Issuer) (b : Body Unit) (s : State) :
    exec (.holdOn iss b) s =
      runRequest (.holdOn iss b) (withFields b (setHostHold true)) s := rfl

theorem exec_holdOff (iss : Issuer) (b : Body Unit) (s : State) :
    exec (.holdOff iss b) s =
      runRequest (.holdOff iss b) (withFields b (setHostHold false)) s := rfl

theorem exec_readCauses (iss : Issuer) (b : Body Unit) (s : State) :
    exec (.readCauses iss b) s =
      runRequest (.readCauses iss b) (withFields b readCauses) s := rfl

theorem exec_ackCauses (iss : Issuer) (b : Body (List (Option Cause))) (s : State) :
    exec (.ackCauses iss b) s =
      runRequest (.ackCauses iss b) (withFields b ackCauses) s := rfl

theorem exec_setAlertMask (iss : Issuer) (b : Body (List (Option Cause))) (s : State) :
    exec (.setAlertMask iss b) s =
      runRequest (.setAlertMask iss b) (withFields b setAlertMask) s := rfl

theorem exec_clearTracking (iss : Issuer) (b : Body Unit) (s : State) :
    exec (.clearTracking iss b) s =
      runRequest (.clearTracking iss b) (withFields b clearTracking) s := rfl

theorem exec_requestFrameEnd (bytes : List Byte) (complete : Bool) (s : State) :
    exec (.requestFrameEnd bytes complete) s =
      outsideReset s (State.endSelect bytes complete) := rfl

theorem exec_intervalTimerExpiry (s : State) :
    exec .intervalTimerExpiry s =
      outsideReset s fun s =>
      if s.time.timerRunning && !s.edgeOutstanding then s.raiseEdge .timed else s := rfl

theorem exec_mark (sinceEdge : Nat) (s : State) :
    exec (.mark sinceEdge) s =
      outsideReset s fun s => s.beforeMark.sampleMark true sinceEdge := rfl

theorem exec_lostMarkLimitExpiry (s : State) :
    exec .lostMarkLimitExpiry s =
      outsideReset s fun s =>
      if s.time.windowOpen && !s.edgeOutstanding then ((s.setCause .markLost).raiseEdge .self).driveAlert else s := rfl

theorem exec_holdLineChange (level : Bool) (s : State) :
    exec (.holdLineChange level) s =
      outsideReset s fun s => (s.sampleHold level).sampleHold level := rfl

theorem exec_edgeClaimGrant (s : State) :
    exec .edgeClaimGrant s =
      outsideReset s fun s =>
      match s.arb.holder with
      | .edge k => (s.edgeWork k).compareHold.releaseTable
      | _ => s := rfl

theorem exec_frameTransmitDone (s : State) :
    exec .frameTransmitDone s =
      outsideReset s fun s => if s.out.sending.isSome then s.frameDone else s := rfl

theorem exec_lineEvent (m : LineId) (h : LineHappening) (s : State) :
    exec (.lineEvent m h) s =
      outsideReset s (State.lineEvent m h) := rfl

theorem exec_triggerLatch (m : LineId) (s : State) :
    exec (.triggerLatch m) s =
      outsideReset s (State.takeLatch m) := rfl

theorem exec_scrubStepDue (s : State) :
    exec .scrubStepDue s =
      outsideReset s fun s => if s.scrub.enable then s.skipScrub.presentScrub else s := rfl

theorem exec_scrubStep (s : State) :
    exec .scrubStep s =
      outsideReset s fun s => if s.arb.holder = .scrubber then s.scrubNow.releaseTable else s := rfl

theorem exec_sensorLineSample (m : LineId) (level : Bool) (s : State) :
    exec (.sensorLineSample m level) s =
      outsideReset s (State.sampleLine m level) := rfl

theorem exec_markSample (level : Bool) (sinceEdge : Nat) (s : State) :
    exec (.markSample level sinceEdge) s =
      outsideReset s (State.sampleMark level sinceEdge) := rfl

/-! ### The frame of each request's work -/

@[simp] theorem openWindow_frame (iss : Issuer) (f : OpenFields) (s : State) :
    (openWindow iss f s).1.inReset = s.inReset ∧
    (openWindow iss f s).1.port = s.port ∧
    (openWindow iss f s).1.ready = s.ready ∧
    (openWindow iss f s).1.receiver = s.receiver ∧
    (openWindow iss f s).1.arb = s.arb ∧
    (openWindow iss f s).1.latches = s.latches ∧
    (openWindow iss f s).1.time = s.time ∧
    (openWindow iss f s).1.latched = s.latched ∧
    (openWindow iss f s).1.demand = s.demand ∧
    (openWindow iss f s).1.flow = s.flow ∧
    (openWindow iss f s).1.pause = s.pause ∧
    (openWindow iss f s).1.out = s.out ∧
    (openWindow iss f s).1.sensors = s.sensors ∧
    (openWindow iss f s).1.conditions = s.conditions ∧
    (openWindow iss f s).1.banks = s.banks ∧
    (openWindow iss f s).1.scrub = s.scrub ∧
    (openWindow iss f s).1.causes = s.causes ∧
    (openWindow iss f s).1.freeIndex = s.freeIndex ∧
    (openWindow iss f s).1.pending = s.pending := by
  unfold openWindow; dsimp only; (repeat' split) <;> simp

@[simp] theorem amendStaged_frame (h : Handle) (r : Record) (a : Amendment) (st : Status) (s : State) :
    (amendStaged h r a st s).1.inReset = s.inReset ∧
    (amendStaged h r a st s).1.port = s.port ∧
    (amendStaged h r a st s).1.ready = s.ready ∧
    (amendStaged h r a st s).1.receiver = s.receiver ∧
    (amendStaged h r a st s).1.arb = s.arb ∧
    (amendStaged h r a st s).1.latches = s.latches ∧
    (amendStaged h r a st s).1.time = s.time ∧
    (amendStaged h r a st s).1.latched = s.latched ∧
    (amendStaged h r a st s).1.demand = s.demand ∧
    (amendStaged h r a st s).1.flow = s.flow ∧
    (amendStaged h r a st s).1.pause = s.pause ∧
    (amendStaged h r a st s).1.out = s.out ∧
    (amendStaged h r a st s).1.sensors = s.sensors ∧
    (amendStaged h r a st s).1.conditions = s.conditions ∧
    (amendStaged h r a st s).1.scrub = s.scrub ∧
    (amendStaged h r a st s).1.freeIndex = s.freeIndex ∧
    (amendStaged h r a st s).1.pending = s.pending := by
  unfold amendStaged; dsimp only; split <;> simp

@[simp] theorem amendLive_frame (h : Handle) (r : Record) (a : Amendment) (st : Status) (s : State) :
    (amendLive h r a st s).1.inReset = s.inReset ∧
    (amendLive h r a st s).1.port = s.port ∧
    (amendLive h r a st s).1.ready = s.ready ∧
    (amendLive h r a st s).1.receiver = s.receiver ∧
    (amendLive h r a st s).1.arb = s.arb ∧
    (amendLive h r a st s).1.latches = s.latches ∧
    (amendLive h r a st s).1.time = s.time ∧
    (amendLive h r a st s).1.latched = s.latched ∧
    (amendLive h r a st s).1.demand = s.demand ∧
    (amendLive h r a st s).1.flow = s.flow ∧
    (amendLive h r a st s).1.pause = s.pause ∧
    (amendLive h r a st s).1.out = s.out ∧
    (amendLive h r a st s).1.sensors = s.sensors ∧
    (amendLive h r a st s).1.conditions = s.conditions ∧
    (amendLive h r a st s).1.scrub = s.scrub ∧
    (amendLive h r a st s).1.freeIndex = s.freeIndex ∧
    (amendLive h r a st s).1.pending = s.pending := by
  simp [amendLive]

@[simp] theorem amendWindow_frame (iss : Issuer) (f : AmendFields) (s : State) :
    (amendWindow iss f s).1.inReset = s.inReset ∧
    (amendWindow iss f s).1.port = s.port ∧
    (amendWindow iss f s).1.ready = s.ready ∧
    (amendWindow iss f s).1.receiver = s.receiver ∧
    (amendWindow iss f s).1.arb = s.arb ∧
    (amendWindow iss f s).1.latches = s.latches ∧
    (amendWindow iss f s).1.time = s.time ∧
    (amendWindow iss f s).1.latched = s.latched ∧
    (amendWindow iss f s).1.demand = s.demand ∧
    (amendWindow iss f s).1.flow = s.flow ∧
    (amendWindow iss f s).1.pause = s.pause ∧
    (amendWindow iss f s).1.out = s.out ∧
    (amendWindow iss f s).1.sensors = s.sensors ∧
    (amendWindow iss f s).1.conditions = s.conditions ∧
    (amendWindow iss f s).1.scrub = s.scrub ∧
    (amendWindow iss f s).1.freeIndex = s.freeIndex ∧
    (amendWindow iss f s).1.pending = s.pending := by
  unfold amendWindow; dsimp only; (repeat' split) <;> simp

@[simp] theorem retireWindow_frame (iss : Issuer) (h : RawHandle) (s : State) :
    (retireWindow iss h s).1.inReset = s.inReset ∧
    (retireWindow iss h s).1.port = s.port ∧
    (retireWindow iss h s).1.ready = s.ready ∧
    (retireWindow iss h s).1.receiver = s.receiver ∧
    (retireWindow iss h s).1.arb = s.arb ∧
    (retireWindow iss h s).1.latches = s.latches ∧
    (retireWindow iss h s).1.time = s.time ∧
    (retireWindow iss h s).1.latched = s.latched ∧
    (retireWindow iss h s).1.demand = s.demand ∧
    (retireWindow iss h s).1.flow = s.flow ∧
    (retireWindow iss h s).1.pause = s.pause ∧
    (retireWindow iss h s).1.out = s.out ∧
    (retireWindow iss h s).1.sensors = s.sensors ∧
    (retireWindow iss h s).1.conditions = s.conditions ∧
    (retireWindow iss h s).1.scrub = s.scrub ∧
    (retireWindow iss h s).1.freeIndex = s.freeIndex ∧
    (retireWindow iss h s).1.pending = s.pending := by
  unfold retireWindow; dsimp only; (repeat' split) <;> simp

@[simp] theorem purge_frame (b : Unit) (s : State) :
    (purge b s).1.inReset = s.inReset ∧
    (purge b s).1.port = s.port ∧
    (purge b s).1.ready = s.ready ∧
    (purge b s).1.receiver = s.receiver ∧
    (purge b s).1.arb = s.arb ∧
    (purge b s).1.latches = s.latches ∧
    (purge b s).1.time = s.time ∧
    (purge b s).1.latched = s.latched ∧
    (purge b s).1.demand = s.demand ∧
    (purge b s).1.flow = s.flow ∧
    (purge b s).1.pause = s.pause ∧
    (purge b s).1.out = s.out ∧
    (purge b s).1.sensors = s.sensors ∧
    (purge b s).1.conditions = s.conditions ∧
    (purge b s).1.banks = s.banks ∧
    (purge b s).1.scrub = s.scrub ∧
    (purge b s).1.causes = s.causes ∧
    (purge b s).1.freeIndex = s.freeIndex ∧
    (purge b s).1.pending = s.pending := by
  unfold purge; (repeat' split) <;> simp

@[simp] theorem readWindow_frame (h : RawHandle) (s : State) :
    (readWindow h s).1.inReset = s.inReset ∧
    (readWindow h s).1.port = s.port ∧
    (readWindow h s).1.ready = s.ready ∧
    (readWindow h s).1.receiver = s.receiver ∧
    (readWindow h s).1.arb = s.arb ∧
    (readWindow h s).1.latches = s.latches ∧
    (readWindow h s).1.time = s.time ∧
    (readWindow h s).1.latched = s.latched ∧
    (readWindow h s).1.demand = s.demand ∧
    (readWindow h s).1.flow = s.flow ∧
    (readWindow h s).1.pause = s.pause ∧
    (readWindow h s).1.out = s.out ∧
    (readWindow h s).1.sensors = s.sensors ∧
    (readWindow h s).1.conditions = s.conditions ∧
    (readWindow h s).1.scrub = s.scrub ∧
    (readWindow h s).1.freeIndex = s.freeIndex ∧
    (readWindow h s).1.pending = s.pending := by
  unfold readWindow; dsimp only; (repeat' split) <;> simp

@[simp] theorem findTag_state (t : BitVec 16) (s : State) : (findTag t s).1 = s := by
  unfold findTag; (repeat' split) <;> simp

@[simp] theorem listWindows_state (f : ListFields) (s : State) : (listWindows f s).1 = s := by
  unfold listWindows; dsimp only; (repeat' split) <;> simp

@[simp] theorem readInterval_state (b : Unit) (s : State) : (readInterval b s).1 = s := by
  unfold readInterval; (repeat' split) <;> simp

@[simp] theorem readStatus_state (b : Unit) (s : State) : (readStatus b s).1 = s := by simp [readStatus]

@[simp] theorem reportInflow_frame (v : BitVec 16) (s : State) :
    (reportInflow v s).1.inReset = s.inReset ∧
    (reportInflow v s).1.port = s.port ∧
    (reportInflow v s).1.ready = s.ready ∧
    (reportInflow v s).1.receiver = s.receiver ∧
    (reportInflow v s).1.arb = s.arb ∧
    (reportInflow v s).1.latches = s.latches ∧
    (reportInflow v s).1.slots = s.slots ∧
    (reportInflow v s).1.tagMap = s.tagMap ∧
    (reportInflow v s).1.time = s.time ∧
    (reportInflow v s).1.latched = s.latched ∧
    (reportInflow v s).1.demand = s.demand ∧
    (reportInflow v s).1.pause = s.pause ∧
    (reportInflow v s).1.out = s.out ∧
    (reportInflow v s).1.sensors = s.sensors ∧
    (reportInflow v s).1.conditions = s.conditions ∧
    (reportInflow v s).1.banks = s.banks ∧
    (reportInflow v s).1.scrub = s.scrub ∧
    (reportInflow v s).1.causes = s.causes ∧
    (reportInflow v s).1.freeIndex = s.freeIndex ∧
    (reportInflow v s).1.pending = s.pending := by simp [reportInflow]

@[simp] theorem reportUnits_frame (l : List (Option Availability)) (s : State) :
    (reportUnits l s).1.inReset = s.inReset ∧
    (reportUnits l s).1.port = s.port ∧
    (reportUnits l s).1.ready = s.ready ∧
    (reportUnits l s).1.receiver = s.receiver ∧
    (reportUnits l s).1.arb = s.arb ∧
    (reportUnits l s).1.latches = s.latches ∧
    (reportUnits l s).1.slots = s.slots ∧
    (reportUnits l s).1.tagMap = s.tagMap ∧
    (reportUnits l s).1.time = s.time ∧
    (reportUnits l s).1.latched = s.latched ∧
    (reportUnits l s).1.demand = s.demand ∧
    (reportUnits l s).1.flow = s.flow ∧
    (reportUnits l s).1.out = s.out ∧
    (reportUnits l s).1.sensors = s.sensors ∧
    (reportUnits l s).1.conditions = s.conditions ∧
    (reportUnits l s).1.banks = s.banks ∧
    (reportUnits l s).1.scrub = s.scrub ∧
    (reportUnits l s).1.causes = s.causes ∧
    (reportUnits l s).1.freeIndex = s.freeIndex ∧
    (reportUnits l s).1.pending = s.pending := by
  unfold reportUnits; dsimp only; (repeat' split) <;> simp

@[simp] theorem setBinding_frame (f : BindingFields) (s : State) :
    (setBinding f s).1.inReset = s.inReset ∧
    (setBinding f s).1.port = s.port ∧
    (setBinding f s).1.ready = s.ready ∧
    (setBinding f s).1.receiver = s.receiver ∧
    (setBinding f s).1.arb = s.arb ∧
    (setBinding f s).1.latches = s.latches ∧
    (setBinding f s).1.slots = s.slots ∧
    (setBinding f s).1.tagMap = s.tagMap ∧
    (setBinding f s).1.time = s.time ∧
    (setBinding f s).1.latched = s.latched ∧
    (setBinding f s).1.demand = s.demand ∧
    (setBinding f s).1.pause = s.pause ∧
    (setBinding f s).1.out = s.out ∧
    (setBinding f s).1.sensors = s.sensors ∧
    (setBinding f s).1.conditions = s.conditions ∧
    (setBinding f s).1.banks = s.banks ∧
    (setBinding f s).1.scrub = s.scrub ∧
    (setBinding f s).1.causes = s.causes ∧
    (setBinding f s).1.freeIndex = s.freeIndex ∧
    (setBinding f s).1.pending = s.pending := by
  unfold setBinding; dsimp only; (repeat' split) <;> simp

@[simp] theorem setSettings_frame (bytes : List Byte) (s : State) :
    (setSettings bytes s).1.inReset = s.inReset ∧
    (setSettings bytes s).1.port = s.port ∧
    (setSettings bytes s).1.ready = s.ready ∧
    (setSettings bytes s).1.receiver = s.receiver ∧
    (setSettings bytes s).1.latches = s.latches ∧
    (setSettings bytes s).1.slots = s.slots ∧
    (setSettings bytes s).1.tagMap = s.tagMap ∧
    (setSettings bytes s).1.latched = s.latched ∧
    (setSettings bytes s).1.demand = s.demand ∧
    (setSettings bytes s).1.pause = s.pause ∧
    (setSettings bytes s).1.out = s.out ∧
    (setSettings bytes s).1.sensors = s.sensors ∧
    (setSettings bytes s).1.conditions = s.conditions ∧
    (setSettings bytes s).1.banks = s.banks ∧
    (setSettings bytes s).1.causes = s.causes ∧
    (setSettings bytes s).1.freeIndex = s.freeIndex ∧
    (setSettings bytes s).1.pending = s.pending := by
  unfold setSettings; (repeat' split) <;> simp

@[simp] theorem loadRotation_frame (l : List Nat) (s : State) :
    (loadRotation l s).1.inReset = s.inReset ∧
    (loadRotation l s).1.port = s.port ∧
    (loadRotation l s).1.ready = s.ready ∧
    (loadRotation l s).1.receiver = s.receiver ∧
    (loadRotation l s).1.arb = s.arb ∧
    (loadRotation l s).1.latches = s.latches ∧
    (loadRotation l s).1.slots = s.slots ∧
    (loadRotation l s).1.tagMap = s.tagMap ∧
    (loadRotation l s).1.time = s.time ∧
    (loadRotation l s).1.latched = s.latched ∧
    (loadRotation l s).1.demand = s.demand ∧
    (loadRotation l s).1.flow = s.flow ∧
    (loadRotation l s).1.out = s.out ∧
    (loadRotation l s).1.sensors = s.sensors ∧
    (loadRotation l s).1.conditions = s.conditions ∧
    (loadRotation l s).1.banks = s.banks ∧
    (loadRotation l s).1.scrub = s.scrub ∧
    (loadRotation l s).1.causes = s.causes ∧
    (loadRotation l s).1.freeIndex = s.freeIndex ∧
    (loadRotation l s).1.pending = s.pending := by
  unfold loadRotation; dsimp only; (repeat' split) <;> simp

@[simp] theorem readRotation_state (b : Unit) (s : State) : (readRotation b s).1 = s := by simp [readRotation]

@[simp] theorem setLine_frame (f : LineFields) (s : State) :
    (setLine f s).1.inReset = s.inReset ∧
    (setLine f s).1.port = s.port ∧
    (setLine f s).1.ready = s.ready ∧
    (setLine f s).1.receiver = s.receiver ∧
    (setLine f s).1.arb = s.arb ∧
    (setLine f s).1.latches = s.latches ∧
    (setLine f s).1.slots = s.slots ∧
    (setLine f s).1.tagMap = s.tagMap ∧
    (setLine f s).1.time = s.time ∧
    (setLine f s).1.latched = s.latched ∧
    (setLine f s).1.demand = s.demand ∧
    (setLine f s).1.flow = s.flow ∧
    (setLine f s).1.pause = s.pause ∧
    (setLine f s).1.out = s.out ∧
    (setLine f s).1.conditions = s.conditions ∧
    (setLine f s).1.banks = s.banks ∧
    (setLine f s).1.scrub = s.scrub ∧
    (setLine f s).1.freeIndex = s.freeIndex ∧
    (setLine f s).1.pending = s.pending := by
  unfold setLine; (repeat' split) <;> simp

@[simp] theorem readLines_state (b : Unit) (s : State) : (readLines b s).1 = s := by simp [readLines]

@[simp] theorem ackLines_frame (l : List Nat) (s : State) :
    (ackLines l s).1.inReset = s.inReset ∧
    (ackLines l s).1.port = s.port ∧
    (ackLines l s).1.ready = s.ready ∧
    (ackLines l s).1.receiver = s.receiver ∧
    (ackLines l s).1.arb = s.arb ∧
    (ackLines l s).1.latches = s.latches ∧
    (ackLines l s).1.slots = s.slots ∧
    (ackLines l s).1.tagMap = s.tagMap ∧
    (ackLines l s).1.time = s.time ∧
    (ackLines l s).1.latched = s.latched ∧
    (ackLines l s).1.demand = s.demand ∧
    (ackLines l s).1.flow = s.flow ∧
    (ackLines l s).1.pause = s.pause ∧
    (ackLines l s).1.out = s.out ∧
    (ackLines l s).1.conditions = s.conditions ∧
    (ackLines l s).1.banks = s.banks ∧
    (ackLines l s).1.scrub = s.scrub ∧
    (ackLines l s).1.freeIndex = s.freeIndex ∧
    (ackLines l s).1.pending = s.pending := by
  unfold ackLines; (repeat' split) <;> simp

@[simp] theorem setCondition_frame (f : ConditionFields) (s : State) :
    (setCondition f s).1.inReset = s.inReset ∧
    (setCondition f s).1.port = s.port ∧
    (setCondition f s).1.ready = s.ready ∧
    (setCondition f s).1.receiver = s.receiver ∧
    (setCondition f s).1.arb = s.arb ∧
    (setCondition f s).1.latches = s.latches ∧
    (setCondition f s).1.slots = s.slots ∧
    (setCondition f s).1.tagMap = s.tagMap ∧
    (setCondition f s).1.time = s.time ∧
    (setCondition f s).1.latched = s.latched ∧
    (setCondition f s).1.demand = s.demand ∧
    (setCondition f s).1.flow = s.flow ∧
    (setCondition f s).1.pause = s.pause ∧
    (setCondition f s).1.out = s.out ∧
    (setCondition f s).1.sensors = s.sensors ∧
    (setCondition f s).1.banks = s.banks ∧
    (setCondition f s).1.scrub = s.scrub ∧
    (setCondition f s).1.causes = s.causes ∧
    (setCondition f s).1.freeIndex = s.freeIndex ∧
    (setCondition f s).1.pending = s.pending := by
  unfold setCondition; dsimp only; (repeat' split) <;> simp

@[simp] theorem setConditionSource_frame (f : SourceFields) (s : State) :
    (setConditionSource f s).1.inReset = s.inReset ∧
    (setConditionSource f s).1.port = s.port ∧
    (setConditionSource f s).1.ready = s.ready ∧
    (setConditionSource f s).1.receiver = s.receiver ∧
    (setConditionSource f s).1.arb = s.arb ∧
    (setConditionSource f s).1.latches = s.latches ∧
    (setConditionSource f s).1.slots = s.slots ∧
    (setConditionSource f s).1.tagMap = s.tagMap ∧
    (setConditionSource f s).1.time = s.time ∧
    (setConditionSource f s).1.latched = s.latched ∧
    (setConditionSource f s).1.demand = s.demand ∧
    (setConditionSource f s).1.flow = s.flow ∧
    (setConditionSource f s).1.pause = s.pause ∧
    (setConditionSource f s).1.out = s.out ∧
    (setConditionSource f s).1.sensors = s.sensors ∧
    (setConditionSource f s).1.banks = s.banks ∧
    (setConditionSource f s).1.scrub = s.scrub ∧
    (setConditionSource f s).1.causes = s.causes ∧
    (setConditionSource f s).1.freeIndex = s.freeIndex ∧
    (setConditionSource f s).1.pending = s.pending := by
  unfold setConditionSource; dsimp only; (repeat' split) <;> simp

@[simp] theorem start_frame (b : Unit) (s : State) :
    (start b s).1.inReset = s.inReset ∧
    (start b s).1.port = s.port ∧
    (start b s).1.ready = s.ready ∧
    (start b s).1.receiver = s.receiver ∧
    (start b s).1.latches = s.latches ∧
    (start b s).1.slots = s.slots ∧
    (start b s).1.tagMap = s.tagMap ∧
    (start b s).1.latched = s.latched ∧
    (start b s).1.demand = s.demand ∧
    (start b s).1.flow = s.flow ∧
    (start b s).1.pause = s.pause ∧
    (start b s).1.sensors = s.sensors ∧
    (start b s).1.conditions = s.conditions ∧
    (start b s).1.banks = s.banks ∧
    (start b s).1.scrub = s.scrub ∧
    (start b s).1.causes = s.causes ∧
    (start b s).1.freeIndex = s.freeIndex ∧
    (start b s).1.pending = s.pending := by
  unfold start; (repeat' split) <;> simp

@[simp] theorem stop_frame (b : Unit) (s : State) :
    (stop b s).1.inReset = s.inReset ∧
    (stop b s).1.port = s.port ∧
    (stop b s).1.ready = s.ready ∧
    (stop b s).1.receiver = s.receiver ∧
    (stop b s).1.latches = s.latches ∧
    (stop b s).1.slots = s.slots ∧
    (stop b s).1.tagMap = s.tagMap ∧
    (stop b s).1.latched = s.latched ∧
    (stop b s).1.demand = s.demand ∧
    (stop b s).1.sensors = s.sensors ∧
    (stop b s).1.conditions = s.conditions ∧
    (stop b s).1.banks = s.banks ∧
    (stop b s).1.scrub = s.scrub ∧
    (stop b s).1.causes = s.causes ∧
    (stop b s).1.freeIndex = s.freeIndex ∧
    (stop b s).1.pending = s.pending := by
  unfold stop; (repeat' split) <;> simp

@[simp] theorem setHostHold_frame (v : Bool) (b : Unit) (s : State) :
    (setHostHold v b s).1.inReset = s.inReset ∧
    (setHostHold v b s).1.port = s.port ∧
    (setHostHold v b s).1.ready = s.ready ∧
    (setHostHold v b s).1.receiver = s.receiver ∧
    (setHostHold v b s).1.latches = s.latches ∧
    (setHostHold v b s).1.slots = s.slots ∧
    (setHostHold v b s).1.tagMap = s.tagMap ∧
    (setHostHold v b s).1.latched = s.latched ∧
    (setHostHold v b s).1.demand = s.demand ∧
    (setHostHold v b s).1.flow = s.flow ∧
    (setHostHold v b s).1.pause = s.pause ∧
    (setHostHold v b s).1.out = s.out ∧
    (setHostHold v b s).1.sensors = s.sensors ∧
    (setHostHold v b s).1.conditions = s.conditions ∧
    (setHostHold v b s).1.banks = s.banks ∧
    (setHostHold v b s).1.scrub = s.scrub ∧
    (setHostHold v b s).1.causes = s.causes ∧
    (setHostHold v b s).1.freeIndex = s.freeIndex ∧
    (setHostHold v b s).1.pending = s.pending := by simp [setHostHold]

@[simp] theorem readCauses_state (b : Unit) (s : State) : (readCauses b s).1 = s := by simp [readCauses]

@[simp] theorem ackCauses_frame (l : List (Option Cause)) (s : State) :
    (ackCauses l s).1.inReset = s.inReset ∧
    (ackCauses l s).1.port = s.port ∧
    (ackCauses l s).1.ready = s.ready ∧
    (ackCauses l s).1.receiver = s.receiver ∧
    (ackCauses l s).1.arb = s.arb ∧
    (ackCauses l s).1.latches = s.latches ∧
    (ackCauses l s).1.slots = s.slots ∧
    (ackCauses l s).1.tagMap = s.tagMap ∧
    (ackCauses l s).1.time = s.time ∧
    (ackCauses l s).1.latched = s.latched ∧
    (ackCauses l s).1.demand = s.demand ∧
    (ackCauses l s).1.flow = s.flow ∧
    (ackCauses l s).1.pause = s.pause ∧
    (ackCauses l s).1.out = s.out ∧
    (ackCauses l s).1.sensors = s.sensors ∧
    (ackCauses l s).1.conditions = s.conditions ∧
    (ackCauses l s).1.banks = s.banks ∧
    (ackCauses l s).1.scrub = s.scrub ∧
    (ackCauses l s).1.freeIndex = s.freeIndex ∧
    (ackCauses l s).1.pending = s.pending := by
  unfold ackCauses; dsimp only; (repeat' split) <;> simp

@[simp] theorem setAlertMask_frame (l : List (Option Cause)) (s : State) :
    (setAlertMask l s).1.inReset = s.inReset ∧
    (setAlertMask l s).1.port = s.port ∧
    (setAlertMask l s).1.ready = s.ready ∧
    (setAlertMask l s).1.receiver = s.receiver ∧
    (setAlertMask l s).1.arb = s.arb ∧
    (setAlertMask l s).1.latches = s.latches ∧
    (setAlertMask l s).1.slots = s.slots ∧
    (setAlertMask l s).1.tagMap = s.tagMap ∧
    (setAlertMask l s).1.time = s.time ∧
    (setAlertMask l s).1.latched = s.latched ∧
    (setAlertMask l s).1.demand = s.demand ∧
    (setAlertMask l s).1.flow = s.flow ∧
    (setAlertMask l s).1.pause = s.pause ∧
    (setAlertMask l s).1.out = s.out ∧
    (setAlertMask l s).1.sensors = s.sensors ∧
    (setAlertMask l s).1.conditions = s.conditions ∧
    (setAlertMask l s).1.banks = s.banks ∧
    (setAlertMask l s).1.scrub = s.scrub ∧
    (setAlertMask l s).1.freeIndex = s.freeIndex ∧
    (setAlertMask l s).1.pending = s.pending := by
  unfold setAlertMask; (repeat' split) <;> simp

@[simp] theorem clearTracking_frame (b : Unit) (s : State) :
    (clearTracking b s).1.inReset = s.inReset ∧
    (clearTracking b s).1.port = s.port ∧
    (clearTracking b s).1.ready = s.ready ∧
    (clearTracking b s).1.receiver = s.receiver ∧
    (clearTracking b s).1.arb = s.arb ∧
    (clearTracking b s).1.latches = s.latches ∧
    (clearTracking b s).1.slots = s.slots ∧
    (clearTracking b s).1.tagMap = s.tagMap ∧
    (clearTracking b s).1.time = s.time ∧
    (clearTracking b s).1.latched = s.latched ∧
    (clearTracking b s).1.demand = s.demand ∧
    (clearTracking b s).1.flow = s.flow ∧
    (clearTracking b s).1.pause = s.pause ∧
    (clearTracking b s).1.out = s.out ∧
    (clearTracking b s).1.sensors = s.sensors ∧
    (clearTracking b s).1.conditions = s.conditions ∧
    (clearTracking b s).1.scrub = s.scrub ∧
    (clearTracking b s).1.causes = s.causes ∧
    (clearTracking b s).1.freeIndex = s.freeIndex ∧
    (clearTracking b s).1.pending = s.pending := by simp [clearTracking]

/-- Every request's command is a claim with some work (R75). -/
theorem exec_request {i : Instr} (hi : isRequest i) : ∃ work, ∀ s, exec i s = runRequest i work s := by
  cases i with
  | openWindow iss b => exact ⟨_, exec_openWindow iss b⟩
  | amendWindow iss b => exact ⟨_, exec_amendWindow iss b⟩
  | retireWindow iss b => exact ⟨_, exec_retireWindow iss b⟩
  | purge iss b => exact ⟨_, exec_purge iss b⟩
  | readWindow iss b => exact ⟨_, exec_readWindow iss b⟩
  | findTag iss b => exact ⟨_, exec_findTag iss b⟩
  | listWindows iss b => exact ⟨_, exec_listWindows iss b⟩
  | readInterval iss b => exact ⟨_, exec_readInterval iss b⟩
  | readStatus iss b => exact ⟨_, exec_readStatus iss b⟩
  | reportInflow iss b => exact ⟨_, exec_reportInflow iss b⟩
  | reportUnits iss b => exact ⟨_, exec_reportUnits iss b⟩
  | setBinding iss b => exact ⟨_, exec_setBinding iss b⟩
  | setSettings iss b => exact ⟨_, exec_setSettings iss b⟩
  | loadRotation iss b => exact ⟨_, exec_loadRotation iss b⟩
  | readRotation iss b => exact ⟨_, exec_readRotation iss b⟩
  | setLine iss b => exact ⟨_, exec_setLine iss b⟩
  | readLines iss b => exact ⟨_, exec_readLines iss b⟩
  | ackLines iss b => exact ⟨_, exec_ackLines iss b⟩
  | setCondition iss b => exact ⟨_, exec_setCondition iss b⟩
  | setConditionSource iss b => exact ⟨_, exec_setConditionSource iss b⟩
  | start iss b => exact ⟨_, exec_start iss b⟩
  | stop iss b => exact ⟨_, exec_stop iss b⟩
  | holdOn iss b => exact ⟨_, exec_holdOn iss b⟩
  | holdOff iss b => exact ⟨_, exec_holdOff iss b⟩
  | readCauses iss b => exact ⟨_, exec_readCauses iss b⟩
  | ackCauses iss b => exact ⟨_, exec_ackCauses iss b⟩
  | setAlertMask iss b => exact ⟨_, exec_setAlertMask iss b⟩
  | clearTracking iss b => exact ⟨_, exec_clearTracking iss b⟩
  | requestFrameEnd => simp [isRequest, requestOf] at hi
  | intervalTimerExpiry => simp [isRequest, requestOf] at hi
  | mark => simp [isRequest, requestOf] at hi
  | lostMarkLimitExpiry => simp [isRequest, requestOf] at hi
  | holdLineChange => simp [isRequest, requestOf] at hi
  | edgeClaimGrant => simp [isRequest, requestOf] at hi
  | frameTransmitDone => simp [isRequest, requestOf] at hi
  | lineEvent => simp [isRequest, requestOf] at hi
  | triggerLatch => simp [isRequest, requestOf] at hi
  | scrubStepDue => simp [isRequest, requestOf] at hi
  | scrubStep => simp [isRequest, requestOf] at hi
  | fullReset => simp [isRequest, requestOf] at hi
  | leaveReset => simp [isRequest, requestOf] at hi
  | sensorLineSample => simp [isRequest, requestOf] at hi
  | markSample => simp [isRequest, requestOf] at hi

/-- With no request in hand and the part out of reset, a request executes on a free table and is queued otherwise. -/
theorem admit_of_portFree {i : Instr} {s : State} (h0 : s.inReset = false) (hp : s.portFree) :
    s.admission i = if s.tableFree then .granted else .queued := by
  unfold State.admission
  simp only [h0, Bool.false_eq_true, ↓reduceIte]
  split
  · exact absurd ‹_› (hp _)
  · rfl

/-- With a request in hand, that request alone is taken, and it executes once its claim holds the table. -/
theorem admit_of_working {i : Instr} {s : State} {h : InHand} (h0 : s.inReset = false) (hp : s.port = .working h) :
    s.admission i = if h.runs i then (if s.arb.holder = .request then .granted else .waiting) else .ignored := by
  simp [State.admission, h0, hp]

end Sys2Proof.Machine
end

