-- ==== Sys2Proof/Laws/Settings.lean ====
section
/-! SUPPORT. What a grant makes of the staged settings and bindings (R102 to R106), said once. -/

namespace Sys2Proof.Machine

/-- The staged settings become live, with their cuts, and the staged record is emptied (R102, R103). -/
theorem Apportioner.applyStaged_settingsTaken (a : Apportioner) : settingsTaken a a.applyStaged := by
  refine ⟨rfl, rfl, rfl, rfl, rfl, fun u => ?_, fun c => ?_, fun p => ?_⟩
  · simp [Apportioner.applyStaged, Apportioner.writeSettings, FlowSettings.write]
  · simp [Apportioner.applyStaged, Apportioner.writeSettings, FlowSettings.write]
  · simp only [Apportioner.applyStaged, Apportioner.writeSettings, FlowSettings.write, Fin.getElem_fin,
      mapTable_getElem]
    cases a.staged.passes[p.val].max <;> simp [PassSettings.cutSafe, cutTo]

/-- The bindings after the cuts that go with the staged settings (R103). -/
theorem Apportioner.applyStaged_binding (a : Apportioner) (p : PassId) :
    a.applyStaged.bindings[p] =
      { a.bindings[p] with
        setpoint := cutTo a.staged.passes[p].max a.bindings[p].setpoint
        staged := a.bindings[p].staged.map fun e => (e.1, cutTo a.staged.passes[p].max e.2) } := by
  simp only [Apportioner.applyStaged, Apportioner.writeSettings, FlowSettings.write, Fin.getElem_fin,
    mapTable_getElem]
  cases a.staged.passes[p.val].max <;> cases h : a.bindings[p.val].staged <;> simp [PassBinding.cut, cutTo, h]
  all_goals rw [← h]

/-- At a grant the bindings are settled over the cut ones (R106). -/
theorem Apportioner.atGrant_binding (a : Apportioner) (p : PassId) :
    a.atGrant.bindings[p] = a.applyStaged.bindings[p].settle := by
  simp [Apportioner.atGrant, Apportioner.chooseInflow, Apportioner.ageInflow, Apportioner.settleBindings]

@[simp] theorem Apportioner.atGrant_live (a : Apportioner) : a.atGrant.live = a.applyStaged.live := rfl
@[simp] theorem Apportioner.atGrant_staged (a : Apportioner) : a.atGrant.staged = .none := rfl
@[simp] theorem Apportioner.atGrant_delivered (a : Apportioner) : a.atGrant.delivered = a.delivered := rfl
@[simp] theorem Apportioner.atGrant_heldInflow (a : Apportioner) : a.atGrant.heldInflow = a.heldInflow := rfl
@[simp] theorem Apportioner.atGrant_reportMarker (a : Apportioner) : a.atGrant.reportMarker = false := rfl
@[simp] theorem Apportioner.atGrant_age (a : Apportioner) :
    a.atGrant.age = if a.reportMarker then 0 else min (a.age + 1) Config.maxAge := rfl

/-- What the computation of an edge leaves of the apportioner (R106, R110, R116, R122). -/
theorem Apportioner.take_binding (r : IntervalRecord) (a : Apportioner) (p : PassId) :
    (a.take r).bindings[p] =
      if a.bindings[p].live = .manualPulse then { a.bindings[p] with pulse := true } else a.bindings[p] := by
  simp [Apportioner.take, Apportioner.markPulses]

theorem Apportioner.take_binding_live (r : IntervalRecord) (a : Apportioner) (p : PassId) :
    (a.take r).bindings[p].live = a.bindings[p].live := by
  rw [Apportioner.take_binding]
  split <;> rfl

theorem Apportioner.take_delivered (r : IntervalRecord) (a : Apportioner) (p : PassId) :
    (a.take r).delivered[p] = r.passes[p].delivered := by
  simp [Apportioner.take]

@[simp] theorem Apportioner.take_live (r : IntervalRecord) (a : Apportioner) : (a.take r).live = a.live := rfl
@[simp] theorem Apportioner.take_staged (r : IntervalRecord) (a : Apportioner) : (a.take r).staged = a.staged := rfl
@[simp] theorem Apportioner.take_record (r : IntervalRecord) (a : Apportioner) : (a.take r).record = some r := rfl
@[simp] theorem Apportioner.take_age (r : IntervalRecord) (a : Apportioner) : (a.take r).age = a.age := rfl
@[simp] theorem Apportioner.take_heldInflow (r : IntervalRecord) (a : Apportioner) :
    (a.take r).heldInflow = a.heldInflow := rfl
@[simp] theorem Apportioner.take_reportMarker (r : IntervalRecord) (a : Apportioner) :
    (a.take r).reportMarker = a.reportMarker := rfl
@[simp] theorem Apportioner.take_fallbackFlag (r : IntervalRecord) (a : Apportioner) :
    (a.take r).fallbackFlag = a.fallbackFlag := rfl

end Sys2Proof.Machine
end

