-- ==== Sys2Proof/Laws/Edge.lean ====
section
/-! SUPPORT. What a granted edge does, said once: each field of the state that EDGE_CLAIM_GRANT leaves, in terms of the demand
set, the pause block and the interval record of the edge. A proof about an edge cites `exec_edge` and the lemma of the
field it is about. -/

namespace Sys2Proof.Machine

/-! ### The figures of an edge -/

/-- What the pass at an edge looks at besides the slots. -/
def State.edgeView (k : EdgeKind) (s : State) : PassView := { conditions := s.conditionsAt k, lines := s.lineSnapshot }

/-- The slots as the walk of the edge leaves them. -/
def State.walkedSlots (k : EdgeKind) (s : State) : Vector Slot 64 :=
  mapTable (fun _ sl => (passSlot (s.edgeView k) sl).slot) s.slots

/-- The apportioner as the grant leaves it. -/
def State.grantedFlow (s : State) : Apportioner := s.flow.atGrant

/-- The demand set of the edge. -/
def State.edgeDemand (k : EdgeKind) (s : State) : DemandSet :=
  buildDemand (s.time.grantEdge k).interval k s.grantedFlow.bindings s.grantedFlow.live.classMap s.slots
    (s.walkedSlots k)

/-- The pause block as its work at the edge leaves it. -/
def State.edgePause (k : EdgeKind) (s : State) : PauseBlock :=
  s.pause.atEdge (s.edgeDemand k) s.grantedFlow.live.ratings

/-- The unit order set of the edge. -/
def State.edgeOrders (k : EdgeKind) (s : State) : UnitOrderSet :=
  (s.edgePause k).orderSet s.grantedFlow.live.ratings

/-- The interval record of the edge. -/
def State.edgeRecord (k : EdgeKind) (s : State) : IntervalRecord :=
  computeRecord (s.edgeDemand k) (s.edgeOrders k) s.grantedFlow

/-! ### The outcome -/

theorem exec_edge {k : EdgeKind} {s : State} (h : s.edgeGranted k) :
    exec .edgeClaimGrant s = .next ((s.edgeWork k).compareHold.releaseTable) := by
  rw [exec_edgeClaimGrant, outsideReset_act h.1]
  simp only [h.2]

theorem exec_edge_of_no_edge {s : State} (h0 : s.inReset = false) (h : ∀ k, s.arb.holder ≠ .edge k) :
    exec .edgeClaimGrant s = .next s := by
  rw [exec_edgeClaimGrant, outsideReset_act h0]
  split
  · exact absurd ‹_› (h _)
  · rfl

/-! ### The parts of the work -/

@[simp] theorem State.openEdge_flow (k : EdgeKind) (s : State) : (s.openEdge k).flow = s.grantedFlow := rfl
@[simp] theorem State.openEdge_time (k : EdgeKind) (s : State) : (s.openEdge k).time = s.time.grantEdge k := rfl
@[simp] theorem State.openEdge_out (k : EdgeKind) (s : State) : (s.openEdge k).out = s.out.discardOrder := rfl

@[simp] theorem State.walk_slots (v : PassView) (s : State) :
    (s.walk v).slots = mapTable (fun _ sl => (passSlot v sl).slot) s.slots :=
  State.foldEffects_frame State.slots (by simp) _ _ _

@[simp] theorem State.passEdge_slots (k : EdgeKind) (s : State) :
    ((s.openEdge k).passEdge k).slots = s.walkedSlots k := by
  unfold State.passEdge
  rw [State.walk_slots]
  rfl

@[simp] theorem State.passEdge_latched (k : EdgeKind) (s : State) : (s.passEdge k).latched = s.conditionsAt k := by
  unfold State.passEdge State.walk
  exact State.foldEffects_frame State.latched (by simp) _ _ _

theorem State.demandOf_passEdge (k : EdgeKind) (s : State) :
    ((s.openEdge k).passEdge k).demandOf k s.slots = s.edgeDemand k := by
  unfold State.demandOf State.edgeDemand
  simp

@[simp] theorem State.pauseWork_pause (d : DemandSet) (s : State) :
    (s.pauseWork d).pause = s.pause.atEdge d s.flow.live.ratings := by
  simp [State.pauseWork]

theorem PauseBlock.orderSet_atEdge (d : DemandSet) (ratings : Vector Nat 12) (p : PauseBlock) :
    (p.atEdge d ratings).orders = some ((p.atEdge d ratings).orderSet ratings) := by
  unfold PauseBlock.atEdge
  generalize ((((p.applyReport.applyLoad).release d).advancePhases).serve d.claims) = q
  rfl

@[simp] theorem State.apportion_flow (d : DemandSet) (u : UnitOrderSet) (s : State) :
    (s.apportion d u).flow = s.flow.take (computeRecord d u s.flow) := by
  simp [State.apportion]

@[simp] theorem State.writeBack_slots (d : DemandSet) (r : IntervalRecord) (s : State) :
    (s.writeBack d r).slots = mapTable (fun i sl => sl.writeServed (writtenFigure d r i)) s.slots := rfl

/-! ### What the slots report -/

theorem State.noteEffect_tagMap (i : SlotId) (e : SlotEffect) (s : State) :
    (s.noteEffect i e).tagMap = if e.slot.record.isNone then unmapSlot i s.tagMap else s.tagMap := by
  unfold State.noteEffect
  by_cases h : e.slot.record.isNone <;> by_cases hq : e.quarantined <;> simp [h, hq]

/-- The map keeps the entries of the slots examined that are left with a record, and of those not examined. -/
theorem State.foldEffects_tagMap (es : SlotId → SlotEffect) (l : List SlotId) (s : State) :
    (l.foldl (fun acc i => acc.noteEffect i (es i)) s).tagMap =
      s.tagMap.filter fun e => decide (e.2 ∈ l → (es e.2).slot.record.isSome = true) := by
  induction l generalizing s with
  | nil => simp
  | cons i l ih =>
    rw [List.foldl_cons, ih, State.noteEffect_tagMap]
    by_cases h : (es i).slot.record.isNone
    · rw [if_pos h, unmapSlot, List.filter_filter]
      refine List.filter_congr fun e _ => ?_
      by_cases he : e.2 = i <;> simp_all
    · rw [if_neg h]
      refine List.filter_congr fun e _ => ?_
      by_cases he : e.2 = i <;> simp_all [Option.isSome_iff_ne_none]

/-- The walk takes the entries of the slots it frees out of the tag map. -/
theorem State.walk_tagMap (v : PassView) (s : State) :
    (s.walk v).tagMap = s.tagMap.filter fun e => (passSlot v s.slots[e.2]).slot.record.isSome := by
  unfold State.walk
  rw [State.foldEffects_tagMap]
  refine List.filter_congr fun e _ => ?_
  simp only [indices, List.mem_finRange, true_imp_iff, Bool.decide_eq_true]

/-! ### The fields after the edge's work -/

section fields
variable (k : EdgeKind) (s : State)

@[simp] theorem State.edgeWork_demand : (s.edgeWork k).demand = some (s.edgeDemand k) := by
  unfold State.edgeWork State.serveEdge
  dsimp only
  rw [show ((s.openEdge k).slots) = s.slots from rfl, State.demandOf_passEdge]
  simp

@[simp] theorem State.edgeWork_flow : (s.edgeWork k).flow = s.grantedFlow.take (s.edgeRecord k) := by
  unfold State.edgeWork State.serveEdge
  dsimp only
  rw [show ((s.openEdge k).slots) = s.slots from rfl, State.demandOf_passEdge]
  simp [State.unitOrderSet, State.edgeRecord, State.edgeOrders, State.edgePause]

@[simp] theorem State.edgeWork_slots :
    (s.edgeWork k).slots =
      mapTable (fun i sl => sl.writeServed (writtenFigure (s.edgeDemand k) (s.edgeRecord k) i)) (s.walkedSlots k) := by
  unfold State.edgeWork State.serveEdge
  dsimp only
  rw [show ((s.openEdge k).slots) = s.slots from rfl, State.demandOf_passEdge]
  simp [State.unitOrderSet, State.edgeRecord, State.edgeOrders, State.edgePause]

@[simp] theorem State.edgeWork_latched : (s.edgeWork k).latched = s.conditionsAt k := by
  unfold State.edgeWork State.serveEdge
  dsimp only
  simp
  rfl

@[simp] theorem State.edgeWork_time : (s.edgeWork k).time = s.time.grantEdge k := by
  unfold State.edgeWork State.serveEdge
  dsimp only
  simp

/-- The frame of the edge is handed to order output over the pause block's work. -/
theorem State.edgeWork_pause_out :
    (s.edgeWork k).pause =
        (if s.out.sending.isNone then
          { s.edgePause k with lines := mapTable (fun _ u => orderLines u.order) (s.edgeOrders k).units }
        else s.edgePause k) ∧
      (s.edgeWork k).out =
        (if s.out.sending.isNone then
          { s.out with
            sending := some (orderFrame (s.edgeRecord k)), waitOrder := none, sentSinceStart := true }
        else { s.out with waitOrder := some (orderFrame (s.edgeRecord k), (s.edgeOrders k).units) }) := by
  have h1 : ((s.openEdge k).slots) = s.slots := rfl
  unfold State.edgeWork State.serveEdge
  dsimp only
  rw [h1, State.demandOf_passEdge]
  cases hs : s.out.sending <;>
    simp [hs, State.handFrame, State.beginOrder, OrderOutput.discardOrder, State.unitOrderSet, State.edgeRecord,
      State.edgeOrders, State.edgePause]

/-- The tag map keeps the entries of the slots that the walk leaves with a record (R15, R81, R91). -/
theorem State.edgeWork_tagMap :
    (s.edgeWork k).tagMap = s.tagMap.filter fun e => (s.walkedSlots k)[e.2].record.isSome := by
  have h : (s.edgeWork k).tagMap = ((s.openEdge k).passEdge k).tagMap := by
    unfold State.edgeWork State.serveEdge
    simp
  rw [h]
  unfold State.passEdge
  rw [State.walk_tagMap]
  refine List.filter_congr fun e _ => ?_
  rw [show (s.walkedSlots k)[e.2] = (passSlot (s.edgeView k) s.slots[e.2]).slot from mapTable_get _ _ _]
  rfl

/-! ### The state the edge leaves -/

/-- The slot after the edge: what the pass makes of it, with the served figure written where one is (R80, R93). -/
theorem edge_slot (i : SlotId) :
    ((s.edgeWork k).compareHold.releaseTable).slots[i] =
      (passSlot (s.edgeView k) s.slots[i]).slot.writeServed
        (writtenFigure (s.edgeDemand k) (s.edgeRecord k) i) := by
  simp [State.walkedSlots]

/-- The slot holds a record after the edge exactly where the walk leaves one. -/
theorem Slot.writeServed_isSome (v : Option Nat) (sl : Slot) :
    (sl.writeServed v).record.isSome = sl.record.isSome := by
  unfold Slot.writeServed
  split <;> simp_all

/-- The write-back changes served_flow, and leaves a clean body. -/
theorem Slot.holds_writeServed {g : BitVec 4} {r : Record} {sl : Slot} (v : Option Nat)
    (h : sl = { generation := g, record := some r }) (hr : r.check = .clean) : (sl.writeServed v).holds g r := by
  subst h
  cases v with
  | none => exact ⟨r.body.servedFlow, by simp [Slot.writeServed, ← hr]⟩
  | some n => exact ⟨some n, by simp [Slot.writeServed]⟩

/-- Where the walk leaves no record, or a QUARANTINED one, nothing is written (R93). -/
theorem edge_slot_of_unwritten (i : SlotId)
    (h : ∀ x, (passSlot (s.edgeView k) s.slots[i]).slot.record = some x → x.life = .quarantined) :
    ((s.edgeWork k).compareHold.releaseTable).slots[i] = (passSlot (s.edgeView k) s.slots[i]).slot := by
  have hw : (s.walkedSlots k)[i] = (passSlot (s.edgeView k) s.slots[i]).slot := mapTable_get _ _ _
  have : writtenFigure (s.edgeDemand k) (s.edgeRecord k) i = none := by
    unfold State.edgeDemand
    exact writtenFigure_none fun x hx => h x (by rw [← hw]; exact hx)
  rw [edge_slot, this]
  rfl

end fields

end Sys2Proof.Machine
end

