-- ==== Sys2Proof/Laws/Flags.lean ====
section
/-! SUPPORT. The cause set and ALERT: what each operation makes of a cause, and when ALERT agrees with them. -/

namespace Sys2Proof.Machine

theorem stickyIndex_inj {a b : Sticky} (h : stickyIndex a = stickyIndex b) : a = b := by
  cases a <;> cases b <;> first | rfl | exact absurd h (by decide)

theorem stickyIndex_surj (i : Fin 12) : ∃ c, stickyIndex c = i := by
  have h : i ∈ allSticky.map stickyIndex := by revert i; decide
  obtain ⟨c, -, h⟩ := List.mem_map.mp h
  exact ⟨c, h⟩

/-! ### Causes -/

@[simp] theorem State.setCause_hasCause (c x : Sticky) (s : State) :
    (s.setCause c).hasCause x = (decide (c = x) || s.hasCause x) := by
  unfold State.setCause State.hasCause
  by_cases h : c = x
  · subst h; simp
  · have : (stickyIndex c).val ≠ (stickyIndex x).val := fun e => h (stickyIndex_inj (Fin.ext e))
    simp [h, this]

@[simp] theorem State.setCauseIf_hasCause (b : Bool) (c x : Sticky) (s : State) :
    (s.setCauseIf b c).hasCause x = (b && decide (c = x) || s.hasCause x) := by
  cases b <;> simp [State.setCauseIf]

@[simp] theorem State.setRecordQuarantined_hasCause (x : Sticky) (s : State) :
    s.setRecordQuarantined.hasCause x = s.hasCause x := rfl

@[simp] theorem State.driveAlert_hasCause (x : Sticky) (s : State) : s.driveAlert.hasCause x = s.hasCause x := rfl

/-- A cause depends on the cause unit alone. -/
theorem State.hasCause_congr {s t : State} (h : t.causes = s.causes) (x : Sticky) : t.hasCause x = s.hasCause x := by
  simp [State.hasCause, h]

/-! ### ALERT -/

theorem CauseUnit.enabledSticky_iff (c : CauseUnit) :
    c.enabledSticky = true ↔ ∃ x : Sticky, c.sticky[stickyIndex x] = true ∧ c.enable[stickyIndex x] = true := by
  unfold CauseUnit.enabledSticky indices
  simp only [List.any_eq_true, List.mem_finRange, true_and, Bool.and_eq_true]
  constructor
  · rintro ⟨i, h⟩
    obtain ⟨x, rfl⟩ := stickyIndex_surj i
    exact ⟨x, h⟩
  · rintro ⟨x, h⟩
    exact ⟨_, h⟩

/-- ALERT agrees with the causes exactly when it stands at the level they give. -/
theorem State.alertAgrees_iff (s : State) : s.AlertAgrees ↔ s.causes.alert = s.alertLevel := by
  unfold State.AlertAgrees State.alertLevel State.hasCause
  rw [← CauseUnit.enabledSticky_iff]
  cases s.causes.alert <;> cases s.causes.recordQuarantined <;> cases s.causes.enabledSticky <;>
    cases s.linePending <;> cases s.causes.lineEnable <;> simp

/-- The agreement depends on the causes and the sensor lines alone. -/
theorem State.alertAgrees_congr {s t : State} (hc : t.causes = s.causes) (hs : t.sensors = s.sensors)
    (h : s.AlertAgrees) : t.AlertAgrees := by
  rw [State.alertAgrees_iff] at *
  simpa [State.alertLevel, State.linePending, hc, hs] using h

/-- Once ALERT is driven it agrees. -/
theorem State.alertAgrees_driveAlert (s : State) : s.driveAlert.AlertAgrees := by
  rw [State.alertAgrees_iff]
  simp [State.driveAlert, State.alertLevel, State.linePending, CauseUnit.enabledSticky]

/-- Driving ALERT changes the ALERT line alone. -/
theorem State.driveAlert_causes (s : State) : s.driveAlert.causes = { s.causes with alert := s.alertLevel } := rfl

end Sys2Proof.Machine
end

