-- ==== Sys2Proof/Laws/Keeps.lean ====
section
/-! SUPPORT. What a step can do, said once: a property of states that each piece of work keeps is kept by every command and
by every step. A law of the part is proved by giving the fields of `Keeps`. -/

namespace Sys2Proof.Machine

/-- Every piece of work of the commands keeps `P`. A request's work runs with the part out of reset and the table held for
the request. -/
structure Keeps (P : State → Prop) : Prop where
  queue : ∀ i s, s.inReset = false → s.portFree → P s → P (s.queueRequest i)
  hold : ∀ s, s.inReset = false → s.arb.holder = .nobody ∨ s.arb.holder = .request → P s → P s.holdForRequest
  answer : ∀ r s, s.inReset = false → P s → P (s.answer r)
  openWindow : ∀ iss f s, s.inReset = false → s.arb.holder = .request → P s → P (openWindow iss f s).1
  amendWindow : ∀ iss f s, s.inReset = false → s.arb.holder = .request → P s → P (amendWindow iss f s).1
  retireWindow : ∀ iss f s, s.inReset = false → s.arb.holder = .request → P s → P (retireWindow iss f s).1
  purge : ∀ b s, s.inReset = false → s.arb.holder = .request → P s → P (purge b s).1
  readWindow : ∀ f s, s.inReset = false → s.arb.holder = .request → P s → P (readWindow f s).1
  reportInflow : ∀ v s, s.inReset = false → s.arb.holder = .request → P s → P (reportInflow v s).1
  reportUnits : ∀ l s, s.inReset = false → s.arb.holder = .request → P s → P (reportUnits l s).1
  setBinding : ∀ f s, s.inReset = false → s.arb.holder = .request → P s → P (setBinding f s).1
  setSettings : ∀ l s, s.inReset = false → s.arb.holder = .request → P s → P (setSettings l s).1
  loadRotation : ∀ l s, s.inReset = false → s.arb.holder = .request → P s → P (loadRotation l s).1
  setLine : ∀ f s, s.inReset = false → s.arb.holder = .request → P s → P (setLine f s).1
  ackLines : ∀ l s, s.inReset = false → s.arb.holder = .request → P s → P (ackLines l s).1
  setCondition : ∀ f s, s.inReset = false → s.arb.holder = .request → P s → P (setCondition f s).1
  setConditionSource : ∀ f s, s.inReset = false → s.arb.holder = .request → P s → P (setConditionSource f s).1
  start : ∀ b s, s.inReset = false → s.arb.holder = .request → P s → P (start b s).1
  stop : ∀ b s, s.inReset = false → s.arb.holder = .request → P s → P (stop b s).1
  setHostHold : ∀ v b s, s.inReset = false → s.arb.holder = .request → P s → P (setHostHold v b s).1
  ackCauses : ∀ l s, s.inReset = false → s.arb.holder = .request → P s → P (ackCauses l s).1
  setAlertMask : ∀ l s, s.inReset = false → s.arb.holder = .request → P s → P (setAlertMask l s).1
  clearTracking : ∀ b s, s.inReset = false → s.arb.holder = .request → P s → P (clearTracking b s).1
  frameEnd : ∀ bytes ok s, s.inReset = false → P s → P (State.endSelect bytes ok s)
  timed : ∀ s, s.inReset = false → s.time.timerRunning = true → s.edgeOutstanding = false → P s → P (s.raiseEdge .timed)
  lostMark : ∀ s, s.inReset = false → s.time.windowOpen = true → s.edgeOutstanding = false → P s →
    P ((s.setCause .markLost).raiseEdge .self).driveAlert
  markBefore : ∀ s, P s → P s.beforeMark
  lineBefore : ∀ m x s, P s → P (s.beforeTransition m x)
  markSample : ∀ x t s, s.inReset = false → P s → P (State.sampleMark x t s)
  holdSample : ∀ x s, s.inReset = false → P s → P (State.sampleHold x s)
  edge : ∀ k s, s.inReset = false → s.arb.holder = .edge k → P s → P (s.edgeWork k).compareHold.releaseTable
  frameDone : ∀ s, s.inReset = false → s.out.sending.isSome = true → P s → P s.frameDone
  lineSample : ∀ m x s, s.inReset = false → P s → P (State.sampleLine m x s)
  latch : ∀ m s, s.inReset = false → P s → P (State.takeLatch m s)
  scrubDue : ∀ s, s.inReset = false → P s → P s.skipScrub.presentScrub
  scrub : ∀ s, s.inReset = false → s.arb.holder = .scrubber → P s → P s.scrubNow.releaseTable
  free : ∀ n s, P s → P { s with freeIndex := n }
  toReset : ∀ s, P s → P s.heldInReset
  fromReset : ∀ s, s.inReset = true → P s → P s.leftReset
  pending : ∀ l s, P s → P { s with pending := l }

/-- A granted request finds the table free or already its own. -/
theorem holder_of_granted {i : Instr} {s : State} (h : s.admission i = .granted) :
    s.arb.holder = .nobody ∨ s.arb.holder = .request := by
  unfold State.admission at h
  split at h
  · cases h
  · split at h
    · repeat' split at h
      all_goals first | exact .inr ‹_› | cases h
    · split at h
      · left
        have := ‹s.tableFree = true›
        simp only [State.tableFree, Bool.and_eq_true, decide_eq_true_eq] at this
        exact this.1
      · cases h

/-- What a kept property asks of a request's work. -/
theorem Keeps.request {P : State → Prop} (K : Keeps P) {i : Instr} {work : State → State × Response} {s t : State}
    (hw : ∀ s, s.inReset = false → s.arb.holder = .request → P s → P (work s).1)
    (hr : ∀ s, (work s).1.inReset = s.inReset) (hs : P s) (h : runRequest i work s = .next t) : P t := by
  refine runRequest_keeps (fun ha => ?_) (fun ha => ?_) hs h
  · exact K.queue _ _ (free_of_queued ha).1 (free_of_queued ha).2 hs
  · have h0 := not_inReset_of_granted ha
    refine K.answer _ _ ?_ (hw _ ?_ rfl (K.hold _ h0 (holder_of_granted ha) hs))
    · rw [hr]; exact h0
    · exact h0

/-- The same for a request that carries fields. -/
theorem Keeps.fields {P : State → Prop} (K : Keeps P) {α : Type} {i : Instr} {b : Body α}
    {work : α → State → State × Response} {s t : State}
    (hw : ∀ a s, s.inReset = false → s.arb.holder = .request → P s → P (work a s).1)
    (hr : ∀ a s, (work a s).1.inReset = s.inReset) (hs : P s) (h : runRequest i (withFields b work) s = .next t) :
    P t := by
  refine K.request (fun s h0 h1 hs => withFields_keeps hs fun a => hw a s h0 h1 hs) (fun s => ?_) hs h
  cases b with
  | mismatch => rfl
  | fields a => exact hr a s

/-- A request whose work changes nothing. -/
theorem Keeps.lookup {P : State → Prop} (K : Keeps P) {α : Type} {i : Instr} {b : Body α}
    {work : α → State → State × Response} {s t : State} (hw : ∀ a s, (work a s).1 = s) (hs : P s)
    (h : runRequest i (withFields b work) s = .next t) : P t :=
  K.fields (fun a s _ _ hs => by rw [hw]; exact hs) (fun a s => by rw [hw]) hs h

/-- A property that every piece of work keeps is kept by every command. -/
theorem Keeps.exec {P : State → Prop} (K : Keeps P) {i : Instr} {s t : State} (hs : P s)
    (h : Machine.exec i s = .next t) : P t := by
  cases i with
  | openWindow iss b => rw [exec_openWindow] at h; exact K.fields (K.openWindow iss) (by simp) hs h
  | amendWindow iss b => rw [exec_amendWindow] at h; exact K.fields (K.amendWindow iss) (by simp) hs h
  | retireWindow iss b => rw [exec_retireWindow] at h; exact K.fields (K.retireWindow iss) (by simp) hs h
  | purge iss b => rw [exec_purge] at h; exact K.fields K.purge (by simp) hs h
  | readWindow iss b => rw [exec_readWindow] at h; exact K.fields K.readWindow (by simp) hs h
  | findTag iss b => rw [exec_findTag] at h; exact K.lookup findTag_state hs h
  | listWindows iss b => rw [exec_listWindows] at h; exact K.lookup listWindows_state hs h
  | readInterval iss b => rw [exec_readInterval] at h; exact K.lookup readInterval_state hs h
  | readStatus iss b => rw [exec_readStatus] at h; exact K.lookup readStatus_state hs h
  | reportInflow iss b => rw [exec_reportInflow] at h; exact K.fields K.reportInflow (by simp) hs h
  | reportUnits iss b => rw [exec_reportUnits] at h; exact K.fields K.reportUnits (by simp) hs h
  | setBinding iss b => rw [exec_setBinding] at h; exact K.fields K.setBinding (by simp) hs h
  | setSettings iss b => rw [exec_setSettings] at h; exact K.request (K.setSettings b) (by simp) hs h
  | loadRotation iss b => rw [exec_loadRotation] at h; exact K.fields K.loadRotation (by simp) hs h
  | readRotation iss b => rw [exec_readRotation] at h; exact K.lookup readRotation_state hs h
  | setLine iss b => rw [exec_setLine] at h; exact K.fields K.setLine (by simp) hs h
  | readLines iss b => rw [exec_readLines] at h; exact K.lookup readLines_state hs h
  | ackLines iss b => rw [exec_ackLines] at h; exact K.fields K.ackLines (by simp) hs h
  | setCondition iss b => rw [exec_setCondition] at h; exact K.fields K.setCondition (by simp) hs h
  | setConditionSource iss b => rw [exec_setConditionSource] at h; exact K.fields K.setConditionSource (by simp) hs h
  | start iss b => rw [exec_start] at h; exact K.fields K.start (by simp) hs h
  | stop iss b => rw [exec_stop] at h; exact K.fields K.stop (by simp) hs h
  | holdOn iss b => rw [exec_holdOn] at h; exact K.fields (K.setHostHold true) (by simp) hs h
  | holdOff iss b => rw [exec_holdOff] at h; exact K.fields (K.setHostHold false) (by simp) hs h
  | readCauses iss b => rw [exec_readCauses] at h; exact K.lookup readCauses_state hs h
  | ackCauses iss b => rw [exec_ackCauses] at h; exact K.fields K.ackCauses (by simp) hs h
  | setAlertMask iss b => rw [exec_setAlertMask] at h; exact K.fields K.setAlertMask (by simp) hs h
  | clearTracking iss b => rw [exec_clearTracking] at h; exact K.fields K.clearTracking (by simp) hs h
  | requestFrameEnd bytes ok => rw [exec_requestFrameEnd] at h; exact outsideReset_keeps hs (fun h0 => K.frameEnd _ _ _ h0 hs) h
  | intervalTimerExpiry =>
    rw [exec_intervalTimerExpiry] at h
    refine outsideReset_keeps hs (fun h0 => ?_) h
    split
    · obtain ⟨h1, h2⟩ := Bool.and_eq_true_iff.mp ‹(s.time.timerRunning && !s.edgeOutstanding) = true›
      exact K.timed _ h0 h1 (by simpa using h2) hs
    · exact hs
  | mark t =>
    rw [exec_mark] at h
    refine outsideReset_keeps hs (fun h0 => ?_) h
    exact K.markSample _ _ _ (by simpa using h0) (K.markBefore _ hs)
  | lostMarkLimitExpiry =>
    rw [exec_lostMarkLimitExpiry] at h
    refine outsideReset_keeps hs (fun h0 => ?_) h
    split
    · obtain ⟨h1, h2⟩ := Bool.and_eq_true_iff.mp ‹(s.time.windowOpen && !s.edgeOutstanding) = true›
      exact K.lostMark _ h0 h1 (by simpa using h2) hs
    · exact hs
  | holdLineChange x =>
    rw [exec_holdLineChange] at h
    refine outsideReset_keeps hs (fun h0 => ?_) h
    exact K.holdSample _ _ (by simpa using h0) (K.holdSample _ _ h0 hs)
  | edgeClaimGrant =>
    rw [exec_edgeClaimGrant] at h
    refine outsideReset_keeps hs (fun h0 => ?_) h
    split
    · exact K.edge _ _ h0 ‹_› hs
    · exact hs
  | frameTransmitDone =>
    rw [exec_frameTransmitDone] at h
    refine outsideReset_keeps hs (fun h0 => ?_) h
    split
    · exact K.frameDone _ h0 ‹_› hs
    · exact hs
  | lineEvent m e =>
    rw [exec_lineEvent] at h
    refine outsideReset_keeps hs (fun h0 => ?_) h
    cases e with
    | rise => exact K.lineSample _ _ _ (by simpa using h0) (K.lineBefore _ _ _ hs)
    | fall => exact K.lineSample _ _ _ (by simpa using h0) (K.lineBefore _ _ _ hs)
    | level => exact K.lineSample _ _ _ h0 hs
  | triggerLatch m => rw [exec_triggerLatch] at h; exact outsideReset_keeps hs (fun h0 => K.latch _ _ h0 hs) h
  | scrubStepDue =>
    rw [exec_scrubStepDue] at h
    refine outsideReset_keeps hs (fun h0 => ?_) h
    split
    · exact K.scrubDue _ h0 hs
    · exact hs
  | scrubStep =>
    rw [exec_scrubStep] at h
    refine outsideReset_keeps hs (fun h0 => ?_) h
    split
    · exact K.scrub _ h0 ‹_› hs
    · exact hs
  | fullReset c =>
    have hf : P (if takesFree c then { s with freeIndex := s.freeIndex + 1 } else s) := by
      split
      · exact K.free _ _ hs
      · exact hs
    have h' := Host.Outcome.next.inj h
    rw [← h']
    split
    · exact K.toReset _ hf
    · exact hf
  | leaveReset =>
    have h' := Host.Outcome.next.inj h
    rw [← h']
    split
    · exact K.fromReset _ ‹_› hs
    · exact hs
  | sensorLineSample m x => rw [exec_sensorLineSample] at h; exact outsideReset_keeps hs (fun h0 => K.lineSample _ _ _ h0 hs) h
  | markSample x t => rw [exec_markSample] at h; exact outsideReset_keeps hs (fun h0 => K.markSample _ _ _ h0 hs) h

/-- A property that every piece of work keeps is kept by every step. -/
theorem Keeps.step {P : State → Prop} (K : Keeps P) {s t : State} (hs : P s) (h : Machine.step s = .next t) : P t := by
  unfold Machine.step at h
  split at h
  · cases h; exact hs
  · exact K.exec (K.pending _ _ hs) h

/-- Every command answers a next state: nothing stops the part. -/
theorem exec_total (i : Instr) (s : State) : ∃ t, exec i s = .next t := by
  have hr : ∀ i work s, ∃ t, runRequest i work s = .next t := by
    intro i work s; unfold runRequest; split <;> exact ⟨_, rfl⟩
  have ho : ∀ s act, ∃ t, outsideReset s act = .next t := by
    intro s act; unfold outsideReset; split <;> exact ⟨_, rfl⟩
  cases i with
  | openWindow => rw [exec_openWindow]; exact hr _ _ _
  | amendWindow => rw [exec_amendWindow]; exact hr _ _ _
  | retireWindow => rw [exec_retireWindow]; exact hr _ _ _
  | purge => rw [exec_purge]; exact hr _ _ _
  | readWindow => rw [exec_readWindow]; exact hr _ _ _
  | findTag => rw [exec_findTag]; exact hr _ _ _
  | listWindows => rw [exec_listWindows]; exact hr _ _ _
  | readInterval => rw [exec_readInterval]; exact hr _ _ _
  | readStatus => rw [exec_readStatus]; exact hr _ _ _
  | reportInflow => rw [exec_reportInflow]; exact hr _ _ _
  | reportUnits => rw [exec_reportUnits]; exact hr _ _ _
  | setBinding => rw [exec_setBinding]; exact hr _ _ _
  | setSettings => rw [exec_setSettings]; exact hr _ _ _
  | loadRotation => rw [exec_loadRotation]; exact hr _ _ _
  | readRotation => rw [exec_readRotation]; exact hr _ _ _
  | setLine => rw [exec_setLine]; exact hr _ _ _
  | readLines => rw [exec_readLines]; exact hr _ _ _
  | ackLines => rw [exec_ackLines]; exact hr _ _ _
  | setCondition => rw [exec_setCondition]; exact hr _ _ _
  | setConditionSource => rw [exec_setConditionSource]; exact hr _ _ _
  | start => rw [exec_start]; exact hr _ _ _
  | stop => rw [exec_stop]; exact hr _ _ _
  | holdOn => rw [exec_holdOn]; exact hr _ _ _
  | holdOff => rw [exec_holdOff]; exact hr _ _ _
  | readCauses => rw [exec_readCauses]; exact hr _ _ _
  | ackCauses => rw [exec_ackCauses]; exact hr _ _ _
  | setAlertMask => rw [exec_setAlertMask]; exact hr _ _ _
  | clearTracking => rw [exec_clearTracking]; exact hr _ _ _
  | requestFrameEnd => rw [exec_requestFrameEnd]; exact ho _ _
  | intervalTimerExpiry => rw [exec_intervalTimerExpiry]; exact ho _ _
  | mark => rw [exec_mark]; exact ho _ _
  | lostMarkLimitExpiry => rw [exec_lostMarkLimitExpiry]; exact ho _ _
  | holdLineChange => rw [exec_holdLineChange]; exact ho _ _
  | edgeClaimGrant => rw [exec_edgeClaimGrant]; exact ho _ _
  | frameTransmitDone => rw [exec_frameTransmitDone]; exact ho _ _
  | lineEvent => rw [exec_lineEvent]; exact ho _ _
  | triggerLatch => rw [exec_triggerLatch]; exact ho _ _
  | scrubStepDue => rw [exec_scrubStepDue]; exact ho _ _
  | scrubStep => rw [exec_scrubStep]; exact ho _ _
  | fullReset => exact ⟨_, rfl⟩
  | leaveReset => exact ⟨_, rfl⟩
  | sensorLineSample => rw [exec_sensorLineSample]; exact ho _ _
  | markSample => rw [exec_markSample]; exact ho _ _

end Sys2Proof.Machine
end

