-- ==== Sys2Proof/Laws/PerInstr.lean ====
section
/-! SUPPORT. A law of every command, made per constructor: a request's code is one of the 28 of R186 and its issuer the one the
command carries; an event of the part has neither. -/

namespace Sys2Proof.Laws.Request

open Sys2Proof.Machine

/-- R186: the code of a request is 01 to 1C hex. -/
def Statement (i : Instr) : Prop := ∀ code iss, requestOf i = some (code, iss) → 1 ≤ code ∧ code ≤ 0x1C

/-- A request's code is in range when its number is. -/
theorem of_code {i : Instr} {n : Nat} {iss : Issuer} (h : requestOf i = some (n, iss)) (h1 : 1 ≤ n) (h2 : n ≤ 0x1C) :
    Statement i := by
  intro code iss' hc
  rw [h] at hc
  cases hc
  exact ⟨h1, h2⟩

/-- A command that is no request has no code. -/
theorem of_none {i : Instr} (h : requestOf i = none) : Statement i := by
  intro code iss hc
  rw [h] at hc
  cases hc

theorem openWindow (iss : Issuer) (b : Body OpenFields) : Statement (.openWindow iss b) :=
  of_code rfl (by decide) (by decide)

theorem amendWindow (iss : Issuer) (b : Body AmendFields) : Statement (.amendWindow iss b) :=
  of_code rfl (by decide) (by decide)

theorem retireWindow (iss : Issuer) (b : Body RawHandle) : Statement (.retireWindow iss b) :=
  of_code rfl (by decide) (by decide)

theorem purge (iss : Issuer) (b : Body Unit) : Statement (.purge iss b) :=
  of_code rfl (by decide) (by decide)

theorem readWindow (iss : Issuer) (b : Body RawHandle) : Statement (.readWindow iss b) :=
  of_code rfl (by decide) (by decide)

theorem findTag (iss : Issuer) (b : Body (BitVec 16)) : Statement (.findTag iss b) :=
  of_code rfl (by decide) (by decide)

theorem listWindows (iss : Issuer) (b : Body ListFields) : Statement (.listWindows iss b) :=
  of_code rfl (by decide) (by decide)

theorem readInterval (iss : Issuer) (b : Body Unit) : Statement (.readInterval iss b) :=
  of_code rfl (by decide) (by decide)

theorem readStatus (iss : Issuer) (b : Body Unit) : Statement (.readStatus iss b) :=
  of_code rfl (by decide) (by decide)

theorem reportInflow (iss : Issuer) (b : Body (BitVec 16)) : Statement (.reportInflow iss b) :=
  of_code rfl (by decide) (by decide)

theorem reportUnits (iss : Issuer) (b : Body (List (Option Availability))) : Statement (.reportUnits iss b) :=
  of_code rfl (by decide) (by decide)

theorem setBinding (iss : Issuer) (b : Body BindingFields) : Statement (.setBinding iss b) :=
  of_code rfl (by decide) (by decide)

theorem setSettings (iss : Issuer) (bytes : List Byte) : Statement (.setSettings iss bytes) :=
  of_code rfl (by decide) (by decide)

theorem loadRotation (iss : Issuer) (b : Body (List Nat)) : Statement (.loadRotation iss b) :=
  of_code rfl (by decide) (by decide)

theorem readRotation (iss : Issuer) (b : Body Unit) : Statement (.readRotation iss b) :=
  of_code rfl (by decide) (by decide)

theorem setLine (iss : Issuer) (b : Body LineFields) : Statement (.setLine iss b) :=
  of_code rfl (by decide) (by decide)

theorem readLines (iss : Issuer) (b : Body Unit) : Statement (.readLines iss b) :=
  of_code rfl (by decide) (by decide)

theorem ackLines (iss : Issuer) (b : Body (List Nat)) : Statement (.ackLines iss b) :=
  of_code rfl (by decide) (by decide)

theorem setCondition (iss : Issuer) (b : Body ConditionFields) : Statement (.setCondition iss b) :=
  of_code rfl (by decide) (by decide)

theorem setConditionSource (iss : Issuer) (b : Body SourceFields) : Statement (.setConditionSource iss b) :=
  of_code rfl (by decide) (by decide)

theorem start (iss : Issuer) (b : Body Unit) : Statement (.start iss b) :=
  of_code rfl (by decide) (by decide)

theorem stop (iss : Issuer) (b : Body Unit) : Statement (.stop iss b) :=
  of_code rfl (by decide) (by decide)

theorem holdOn (iss : Issuer) (b : Body Unit) : Statement (.holdOn iss b) :=
  of_code rfl (by decide) (by decide)

theorem holdOff (iss : Issuer) (b : Body Unit) : Statement (.holdOff iss b) :=
  of_code rfl (by decide) (by decide)

theorem readCauses (iss : Issuer) (b : Body Unit) : Statement (.readCauses iss b) :=
  of_code rfl (by decide) (by decide)

theorem ackCauses (iss : Issuer) (b : Body (List (Option Cause))) : Statement (.ackCauses iss b) :=
  of_code rfl (by decide) (by decide)

theorem setAlertMask (iss : Issuer) (b : Body (List (Option Cause))) : Statement (.setAlertMask iss b) :=
  of_code rfl (by decide) (by decide)

theorem clearTracking (iss : Issuer) (b : Body Unit) : Statement (.clearTracking iss b) :=
  of_code rfl (by decide) (by decide)

theorem requestFrameEnd (bytes : List Byte) (complete : Bool) : Statement (.requestFrameEnd bytes complete) := of_none rfl

theorem intervalTimerExpiry : Statement (.intervalTimerExpiry) := of_none rfl

theorem mark (sinceEdge : Nat) : Statement (.mark sinceEdge) := of_none rfl

theorem lostMarkLimitExpiry : Statement (.lostMarkLimitExpiry) := of_none rfl

theorem holdLineChange (level : Bool) : Statement (.holdLineChange level) := of_none rfl

theorem edgeClaimGrant : Statement (.edgeClaimGrant) := of_none rfl

theorem frameTransmitDone : Statement (.frameTransmitDone) := of_none rfl

theorem lineEvent (m : LineId) (h : LineHappening) : Statement (.lineEvent m h) := of_none rfl

theorem triggerLatch (m : LineId) : Statement (.triggerLatch m) := of_none rfl

theorem scrubStepDue : Statement (.scrubStepDue) := of_none rfl

theorem scrubStep : Statement (.scrubStep) := of_none rfl

theorem fullReset (cause : ResetCause) : Statement (.fullReset cause) := of_none rfl

theorem leaveReset : Statement (.leaveReset) := of_none rfl

theorem sensorLineSample (m : LineId) (level : Bool) : Statement (.sensorLineSample m level) := of_none rfl

theorem markSample (level : Bool) (sinceEdge : Nat) : Statement (.markSample level sinceEdge) := of_none rfl

end Sys2Proof.Laws.Request
end

