-- ==== Sys2Proof/Laws/Time.lean ====
section
/-! SUPPORT. The arbiter and the timebase: what presenting a claim, raising an edge and one sample of a filter do, each said
once. -/

namespace Sys2Proof.Machine

/-! ### Claims and edges -/

theorem State.presentEdge_eq (k : EdgeKind) (s : State) : s.presentEdge k = { s with arb := s.claimed k } := by
  unfold State.presentEdge State.claimed
  split <;> rfl

/-- Raising an edge changes the timebase and presents the edge claim; nothing else (R60). -/
theorem State.raiseEdge_eq (k : EdgeKind) (s : State) :
    s.raiseEdge k = { s with arb := s.claimed k, time := s.time.atEdge k } := by
  unfold State.raiseEdge
  rw [State.presentEdge_eq]
  rfl

/-- Where the table is not free the edge claim waits (R74). -/
theorem State.claimed_of_held {k : EdgeKind} {s : State} (h : s.tableFree = false) :
    s.claimed k = { s.arb with waitEdge := some k } := by
  simp [State.claimed, h]

/-- A table that a claim holds is not free. -/
theorem State.tableFree_of_held {s : State} (h : s.arb.holder ≠ .nobody) : s.tableFree = false := by
  simp [State.tableFree, h]

/-- The release, by the latches and the claims that wait (R2, R74). -/
theorem State.releaseTable_arb (s : State) :
    s.releaseTable.arb =
      if s.latches = [] then
        match s.arb.waitEdge with
        | some k => { s.arb with holder := .edge k, waitEdge := none }
        | none =>
          if s.arb.waitRequest then { s.arb with holder := .request, waitRequest := false }
          else if s.arb.waitScrub then { s.arb with holder := .scrubber, waitScrub := false }
          else { s.arb with holder := .nobody }
      else { s.arb with holder := .nobody } := by
  obtain ⟨_, _, _, _, ⟨hd, we, wr, ws⟩, l, _⟩ := s
  cases l <;> cases we <;> cases wr <;> cases ws <;> rfl

/-- What the hold does, by operating state and level (R71, R165). -/
theorem State.changeHoldOwner_eq (t : Timebase) (s : State) :
    s.changeHoldOwner t =
      if State.holdLevel { s with time := t } = s.holdLevel ∨ s.edgeOutstanding = true then { s with time := t }
      else State.takeHoldChange { s with time := t } := by
  unfold State.changeHoldOwner
  simp only [Bool.or_eq_true, decide_eq_true_eq]
  rfl

/-! ### The two-sample filter (R64, R146, R158) -/

theorem Filter.sample_of_disagree {x : Bool} {f : Filter} (h : f.previous ≠ some x) :
    f.sample x = ⟨some x, f.level⟩ := by
  simp [Filter.sample, h]

theorem Filter.sample_of_agree {x : Bool} {f : Filter} (h : f.previous = some x) : f.sample x = ⟨some x, x⟩ := by
  simp [Filter.sample, h]

/-- Two samples of a level give the filter that level. -/
theorem Filter.sample_twice (x : Bool) (f : Filter) : (f.sample x).sample x = ⟨some x, x⟩ := by
  simp [Filter.sample]

theorem Filter.rises_iff (x : Bool) (f : Filter) :
    f.rises x = true ↔ f.level = false ∧ f.previous = some true ∧ x = true := by
  unfold Filter.rises Filter.sample
  cases x <;> cases hl : f.level <;> by_cases hp : f.previous = some true <;> by_cases hq : f.previous = some false <;>
    simp_all

theorem Filter.falls_iff (x : Bool) (f : Filter) :
    f.falls x = true ↔ f.level = true ∧ f.previous = some false ∧ x = false := by
  unfold Filter.falls Filter.sample
  cases x <;> cases hl : f.level <;> by_cases hp : f.previous = some true <;> by_cases hq : f.previous = some false <;>
    simp_all

end Sys2Proof.Machine
end

