-- ==== Sys2Proof/WellFormed.lean ====
section
/-! DEFINITION. When a command is one that the part can be given: a request whose fields a frame can carry (a body of
at most 100 bytes, 12.5, so one-byte fields of one byte and lists of at most 100 entries). A frame carries its fields
in whole bytes, so a well-formed field of one byte is at most 255. Every command has its meaning whether or not it is
well formed. -/

namespace Sys2Proof

/-- A value one byte of a frame can hold. -/
abbrev oneByte (n : Nat) : Bool := decide (n ≤ 255)

def optByte : Option Nat → Bool
  | none => true
  | some n => oneByte n

def RawTarget.wf : RawTarget → Bool
  | .pass n => oneByte n
  | .fixed n => oneByte n
  | .any => true

def optGuardByte : Option RawGuard → Bool
  | none => true
  | some g => oneByte g.condition

def RawHandle.wf (h : RawHandle) : Bool := oneByte h.slot && oneByte h.generation

def OpenFields.wf (f : OpenFields) : Bool :=
  f.target.wf && oneByte f.cls && optByte f.pauseCount && optByte f.unloadCount && optByte f.triggerLine &&
    optGuardByte f.guard

def RawGuardChange.wf : Option RawGuardChange → Bool
  | some (.given g) => oneByte g.condition
  | _ => true

def AmendFields.wf (f : AmendFields) : Bool :=
  f.handle.wf && optByte f.cls && RawGuardChange.wf f.guard && optByte f.pauseCount && optByte f.unloadCount

def ListFields.wf (f : ListFields) : Bool :=
  decide (f.states.length ≤ 100) && oneByte f.cursor &&
    match f.target with
    | .only t => t.wf
    | _ => true

def RawSource.wf : RawSource → Bool
  | .line n _ => oneByte n
  | _ => true

/-- `p` of the fields, where the body has them. -/
def Body.all {α : Type} (p : α → Bool) : Body α → Bool
  | .mismatch => true
  | .fields a => p a

/-- The command is one the part can be given. A byte sequence of a select period has no limit; a time after the last
edge and the length of a RESET pulse have none either. -/
def Instr.wf : Instr → Bool
  | .openWindow _ b => b.all OpenFields.wf
  | .amendWindow _ b => b.all AmendFields.wf
  | .retireWindow _ b => b.all RawHandle.wf
  | .purge _ _ => true
  | .readWindow _ b => b.all RawHandle.wf
  | .findTag _ _ => true
  | .listWindows _ b => b.all ListFields.wf
  | .readInterval _ _ => true
  | .readStatus _ _ => true
  | .reportInflow _ _ => true
  | .reportUnits _ b => b.all fun l => decide (l.length ≤ 100)
  | .setBinding _ b => b.all fun f => oneByte f.pass
  | .setSettings _ bytes => decide (bytes.length ≤ 100)
  | .loadRotation _ b => b.all fun l => decide (l.length ≤ 100) && l.all oneByte
  | .readRotation _ _ => true
  | .setLine _ b => b.all fun f => oneByte f.line && oneByte f.prescale
  | .readLines _ _ => true
  | .ackLines _ b => b.all fun l => decide (l.length ≤ 100) && l.all oneByte
  | .setCondition _ b => b.all fun f => oneByte f.condition
  | .setConditionSource _ b => b.all fun f => oneByte f.condition && f.source.wf
  | .start _ _ => true
  | .stop _ _ => true
  | .holdOn _ _ => true
  | .holdOff _ _ => true
  | .readCauses _ _ => true
  | .ackCauses _ b => b.all fun l => decide (l.length ≤ 100)
  | .setAlertMask _ b => b.all fun l => decide (l.length ≤ 100)
  | .clearTracking _ _ => true
  | .requestFrameEnd _ _ => true
  | .intervalTimerExpiry => true
  | .mark _ => true
  | .lostMarkLimitExpiry => true
  | .holdLineChange _ => true
  | .edgeClaimGrant => true
  | .frameTransmitDone => true
  | .lineEvent _ _ => true
  | .triggerLatch _ => true
  | .scrubStepDue => true
  | .scrubStep => true
  | .fullReset _ => true
  | .leaveReset => true
  | .sensorLineSample _ _ => true
  | .markSample _ _ => true

end Sys2Proof
end

