-- ==== Sys2Proof/Tests/Slice0.lean ====
section
/-! SUPPORT. The model's own tests: terms that `Instr.wf` refuses, the spec's worked examples, and for each statement of
Certificates/Slice0/Obligations.lean a witness `witness_<Name>` that its hypotheses can be met, clause by clause. The
expected values of the examples are those of the manual. -/

namespace Sys2Proof.Tests

open Sys2Proof Sys2Proof.Machine

/-! ### States and commands of the tests -/

/-- The state a command leaves. -/
def after (i : Instr) (s : State) : State :=
  match exec i s with
  | .next t => t
  | _ => s

/-- The state a sequence of commands leaves. -/
def afterAll (l : List Instr) (s : State) : State := l.foldl (fun t i => after i t) s

/-- A PASS_FLOW record of length 0 in a lifecycle state. -/
def flowRec (life : Life) (p : PassId) (cls : ClassId) (flow : Nat) : Record :=
  { life := life, owner := .dispatch, tag := 0, target := .pass p, retirePending := false, check := .clean, staged := none
    body :=
      { cls := cls, requestedFlow := some flow, pauseCount := none, unloadCount := none, startMode := .immediate,
        triggerLine := none, startOffset := 0, length := 0, repeats := 0, guard := none, autoRelease := false,
        lead := 0, elapsed := 0, runsLeft := 0, triggerSeen := none, servedFlow := some 0 } }

/-- A UNIT_PAUSE record of length 0, ACTIVE. -/
def pauseRec (t : Target) (count unload : Nat) : Record :=
  { life := .active, owner := .authority, tag := 0, target := t, retirePending := false, check := .clean, staged := none
    body :=
      { cls := 4, requestedFlow := none, pauseCount := some count, unloadCount := some unload, startMode := .immediate,
        triggerLine := none, startOffset := 0, length := 0, repeats := 0, guard := none, autoRelease := false,
        lead := 0, elapsed := 0, runsLeft := 0, triggerSeen := none, servedFlow := none } }

/-- An ARMED PASS_FLOW record bound to a line. -/
def armedRec (m : LineId) : Record :=
  { flowRec .armed 0 4 5 with
    body := { (flowRec .armed 0 4 5).body with startMode := .trigger, triggerLine := some m, triggerSeen := some false } }

/-- The record in the slot, generation 0. -/
def put (i : SlotId) (r : Record) (s : State) : State :=
  { s with slots := s.slots.set i { generation := 0, record := some r } }

/-- An amendment that names no field. -/
def noChange : Amendment :=
  { cls := none, requestedFlow := none, length := none, repeats := none, guard := none, autoRelease := none,
    pauseCount := none, unloadCount := none, startOffset := none }

/-- The state with another operating state. -/
def inState (o : OpState) (s : State) : State := { s with time := { s.time with opState := o } }

/-- RUN under INTERNAL, with the edge claim holding the table. -/
def edgeHeld (k : EdgeKind) (s : State) : State :=
  { s with
    arb := { s.arb with holder := .edge k }
    time := { s.time with opState := .run, timerRunning := true } }

/-- RUN under FOLLOW. -/
def following (s : State) : State :=
  { s with time := { s.time with opState := .run, source := .follow, windowOpen := true } }

/-- The scrubber holds the table. -/
def scrubHeld (s : State) : State := { s with arb := { s.arb with holder := .scrubber } }

def openFields (p : Nat) (cls : Nat) (flow : Nat) : OpenFields :=
  { kind := some .passFlow, target := .pass p, tag := 0, cls := cls, requestedFlow := some (BitVec.ofNat 16 flow),
    pauseCount := none, unloadCount := none, startMode := some .immediate, triggerLine := none, startOffset := 0,
    length := 0, repeats := 0, guard := none, autoRelease := false }

def pauseFields (t : RawTarget) (count : Option Nat) (unload : Nat) : OpenFields :=
  { openFields 0 4 0 with
    kind := some .unitPause, target := t, requestedFlow := none, pauseCount := count, unloadCount := some unload }

def amendFields (slot generation : Nat) : AmendFields :=
  { handle := ⟨slot, generation⟩, immutable := [], cls := none, requestedFlow := none, length := none, repeats := none,
    guard := none, autoRelease := none, pauseCount := none, unloadCount := none, startOffset := none, malformed := false }

/-- One item of SET_SETTINGS. -/
def item (c i v : Nat) : List Byte := [BitVec.ofNat 8 c, BitVec.ofNat 8 i] ++ bytes16 (BitVec.ofNat 16 v)

def settingsCmd (bytes : List Byte) : Instr := .setSettings .operator bytes
def openCmd (f : OpenFields) : Instr := .openWindow .authority (.fields f)
def startCmd : Instr := .start .operator (.fields ())

theorem portFree_of_idle {s : State} (h : s.port = .idle) : s.portFree := by
  intro x e
  rw [h] at e
  cases e

/-! ### Ill-formed commands are refused, one for each check of `Instr.wf` -/

theorem test_wf_openWindow :
    ([{ openFields 0 0 0 with target := .pass 256 }, { openFields 0 0 0 with target := .fixed 256 },
      openFields 0 256 0, { openFields 0 0 0 with pauseCount := some 256 },
      { openFields 0 0 0 with unloadCount := some 256 }, { openFields 0 0 0 with triggerLine := some 256 },
      { openFields 0 0 0 with guard := some ⟨256, some true, some .skip⟩ }].all
        fun f => !(openCmd f).wf) = true := by decide

theorem test_wf_amendWindow :
    ([amendFields 256 0, amendFields 0 256, { amendFields 0 0 with cls := some 256 },
      { amendFields 0 0 with guard := some (.given ⟨256, some true, some .skip⟩) },
      { amendFields 0 0 with pauseCount := some 256 }, { amendFields 0 0 with unloadCount := some 256 }].all
        fun f => !(Instr.amendWindow .operator (.fields f)).wf) = true := by decide

theorem test_wf_handles :
    ([⟨256, 0⟩, ⟨0, 256⟩].all fun h =>
      !(Instr.retireWindow .operator (.fields h)).wf && !(Instr.readWindow .operator (.fields h)).wf) = true := by decide

theorem test_wf_listWindows :
    ([⟨List.replicate 101 none, .all, .all, .all, 0⟩, ⟨[], .all, .all, .all, 256⟩,
      ⟨[], .all, .only (.pass 256), .all, 0⟩].all fun f => !(Instr.listWindows .operator (.fields f)).wf) = true := by
  decide

theorem test_wf_setLine :
    ([⟨256, none, none, none, 0⟩, ⟨0, none, none, none, 256⟩].all fun f =>
      !(Instr.setLine .operator (.fields f)).wf) = true := by decide

theorem test_wf_lists :
    ([.reportUnits .operator (.fields (List.replicate 101 none)), .setSettings .operator (List.replicate 101 0),
      .loadRotation .operator (.fields (List.replicate 101 0)), .loadRotation .operator (.fields [256]),
      .ackLines .operator (.fields (List.replicate 101 0)), .ackLines .operator (.fields [256]),
      .ackCauses .operator (.fields (List.replicate 101 none)),
      .setAlertMask .operator (.fields (List.replicate 101 none))].all fun i => !Instr.wf i) = true := by decide

theorem test_wf_setBinding : (Instr.setBinding .operator (.fields ⟨256, none, 0⟩)).wf = false := by decide
theorem test_wf_setCondition : (Instr.setCondition .operator (.fields ⟨256, none⟩)).wf = false := by decide
theorem test_wf_setConditionSource :
    ([⟨256, .other⟩, ⟨1, .line 256 none⟩].all fun f =>
      !(Instr.setConditionSource .operator (.fields f)).wf) = true := by decide

/-! ### Worked examples of the manual -/

/-- R184: the check value of the CRC over the ASCII digits 1 to 9. -/
theorem test_crc_check_value :
    crc16 [0x31, 0x32, 0x33, 0x34, 0x35, 0x36, 0x37, 0x38, 0x39] = 0x29B1#16 := by decide +kernel

/-- No row of the opcode table has bits. -/
theorem test_no_word_spells_a_command : decodeTableWord 8 0 = none ∧ decodeTableWord 32 0xFFFFFFFF = none := by decide

/-- Section 6.9, as the part stands before the edge; the pause records are in slots 6 to 8 as in the case. -/
def setPass (p : PassId) (x : PassSettings) (d : Nat) (s : State) : State :=
  { s with
    flow :=
      { s.flow with
        live := { s.flow.live with passes := s.flow.live.passes.set p x }
        delivered := s.flow.delivered.set p d
        bindings := s.flow.bindings.set p { live := .scheduled, setpoint := 0, pulse := false, staged := none } } }

def case1 : State :=
  put 0 (flowRec .active 0 0 250) <| put 1 (flowRec .active 0 2 120) <| put 2 (flowRec .active 2 1 400) <|
  put 3 (flowRec .active 2 5 300) <| put 4 (flowRec .active 1 6 200) <| put 5 (flowRec .active 3 4 150) <|
  setPass 0 ⟨300, 0, 0, 0⟩ 300 <| setPass 1 ⟨200, 50, 50, 0⟩ 100 <| setPass 2 ⟨500, 100, 100, 0⟩ 350 <|
  setPass 3 ⟨150, 0, 40, 0⟩ 150 <|
  edgeHeld .timed
    { State.reset with
      flow :=
        { State.reset.flow with
          heldInflow := some 1800, reportMarker := true, live := { FlowSettings.initial with residual := 400 } } }

/-- Section 6.9: the budgets and grants of the two tiers, the delivered flow and the turbine ceiling. -/
theorem test_case_6_9_budgets :
    ((after .edgeClaimGrant case1).flow.record.map fun r =>
      [r.m, r.w0, r.d0, r.g0, r.w1, r.d1, r.g1, r.residue, r.d, r.tCeil]) =
    some [0, 1800, 700, 700, 1100, 450, 450, 0, 1050, 750] := by decide +kernel

/-- Section 6.9: what each record was served. -/
theorem test_case_6_9_served :
    ((indices 6).map fun i =>
      ((after .edgeClaimGrant case1).recordAt (i.castLE (by decide))).bind (·.body.servedFlow)) =
    [some 202, some 97, some 400, some 100, some 200, some 150] := by decide +kernel

/-- Section 1.9: the record of slot 5 ends at its span and is freed, generation 1, its tag out of the map. -/
theorem test_case_1_9_end :
    (after .edgeClaimGrant
      (edgeHeld .timed
        { put 5 { flowRec .active 2 1 0 with
                  tag := 812, body := { (flowRec .active 2 1 0).body with length := 2, elapsed := 1, autoRelease := true } }
            State.reset with tagMap := [(812, 5)] })).slots[5] = { generation := 1, record := none } := by decide +kernel

/-- Section 7.7's rotation table. -/
def rotation : Vector (Option UnitId) 32 :=
  Vector.ofFn fun i : Fin 32 => ([some 2, some 5, some 7, some 2, some 9, none, some 5, some 11] : List _).getD i.val none

/-- Section 7.7: from pointer 3 with every unit AVAILABLE and free the walk takes U2 at phase 3; with U2 assigned it takes U9. -/
theorem test_case_7_7_walk :
    walkFrom (Vector.replicate 12 .available) rotation (Vector.replicate 64 []) 3 = some (3, 2) ∧
    walkFrom (Vector.replicate 12 .available) rotation ((Vector.replicate 64 []).set 0 [⟨2, .unload, 1⟩]) 3 =
      some (4, 9) := by decide +kernel

/-- Section 8.7: the line's state before t = 0. -/
def case87 : State :=
  { put 22 (armedRec 3) State.reset with
    sensors := State.reset.sensors.set 3
      { SensorLine.initial with enable := true, base := .fast, prescale := 2, filter := ⟨some false, false⟩ } }

/-- Section 8.7: the disturbance of one sample makes no event, the steady rise one at its second sample. -/
theorem test_case_8_7_samples :
    ((afterAll [.sensorLineSample 3 true, .sensorLineSample 3 false, .sensorLineSample 3 true] case87).sensors[3].pending,
      (afterAll [.sensorLineSample 3 true, .sensorLineSample 3 true] case87).sensors[3].pending,
      (afterAll [.sensorLineSample 3 true, .sensorLineSample 3 true] case87).latches) = (false, true, [3]) := by
  decide +kernel

/-- Section 8.7: the latch reaches the ARMED record of slot 22. -/
theorem test_case_8_7_latch :
    ((afterAll [.lineEvent 3 .rise, .triggerLatch 3] case87).recordAt 22).map (·.body.triggerSeen) = some (some true) := by
  decide +kernel

/-- Section 10.6: slot 18's body and amendment each with one wrong bit, bank 1 at 253. -/
def case106 : State :=
  scrubHeld
    { put 18 { flowRec .active 4 0 0 with check := .singleBit, staged := some ⟨noChange, .singleBit⟩ } State.reset with
      banks := State.reset.banks.set 1 { count := 253, overflow := false }, scrub := { next := 18, enable := true } }

/-- Section 10.6: the step counts both corrections, to 255, with the flag clear; a third sets the flag and FIX_OVERFLOW. -/
theorem test_case_10_6 :
    (after .scrubStep case106).banks[1] = { count := 255, overflow := false } ∧
    (after .scrubStep (scrubHeld { after .scrubStep case106 with
      slots := case106.slots, scrub := { next := 18, enable := true } })).banks[1] = { count := 255, overflow := true } ∧
    (after .scrubStep (scrubHeld { after .scrubStep case106 with
      slots := case106.slots, scrub := { next := 18, enable := true } })).hasCause .fixOverflow = true := by
  decide +kernel

/-- Section 11.5: acknowledging RESTART deasserts ALERT. -/
theorem test_case_11_5 :
    (after (.ackCauses .operator (.fields [some (.sticky .restart)])) State.reset).causes.alert = false := by decide +kernel

/-! ### Witnesses: steps, the port and the arbiter -/

/-- The part with a request in hand and the table held. -/
def working (h : InHand) (holder : Holder) : State :=
  { State.reset with port := .working h, ready := false, arb := { State.reset.arb with holder := holder } }

/-- Claims that wait while the request holds the table. -/
def claims (e : Option EdgeKind) (r sc : Bool) : State :=
  { State.reset with arb := { holder := .request, waitEdge := e, waitRequest := r, waitScrub := sc } }

theorem witness_StepRunsTheFrontCommand : State.reset.pending = [] := rfl

theorem witness_RequestsAreAdmittedOneAtATime :
    isRequest startCmd ∧ State.reset.inReset = false ∧ State.reset.portFree ∧ State.reset.tableFree = true ∧
    (scrubHeld State.reset).portFree ∧ (scrubHeld State.reset).tableFree = false ∧
    (working (.request startCmd) .request).port = .working (.request startCmd) ∧
    (InHand.request startCmd).runs startCmd = true ∧ (InHand.frame 0x15 .operator []).runs startCmd = true ∧
    (InHand.request .edgeClaimGrant).runs startCmd = false ∧ (InHand.frame 0x1C .operator []).runs startCmd = false ∧
    (working (.request startCmd) .request).arb.holder = .request ∧
    (working (.request startCmd) .scrubber).arb.holder ≠ .request :=
  ⟨rfl, rfl, portFree_of_idle rfl, by decide, portFree_of_idle rfl, by decide, rfl, by decide, by decide, by decide,
    by decide, rfl, by decide⟩

theorem witness_ExecutedRequestIsAnswered :
    isRequest startCmd ∧ State.reset.admission startCmd = .granted ∧
    State.reset.admission (.start .operator .mismatch) = .granted ∧ mismatched (.start .operator .mismatch) = true ∧
    State.reset.admission (settingsCmd [0, 0, 0]) = .granted ∧ mismatched (settingsCmd [0, 0, 0]) = true :=
  ⟨rfl, by decide, by decide, by decide, by decide, by decide⟩

theorem witness_ReleaseGrantsTheNextClaim :
    { State.reset with latches := [3] }.latches ≠ [] ∧ State.reset.latches = [] ∧
    (claims (some .timed) true true).arb.waitEdge = some .timed ∧
    ((claims none true true).arb.waitEdge = none ∧ (claims none true true).arb.waitRequest = true) ∧
    ((claims none false true).arb.waitRequest = false ∧ (claims none false true).arb.waitScrub = true) ∧
    (claims none false false).arb.waitScrub = false := by decide

theorem witness_RequestFrameIsCheckedThenTaken :
    State.reset.inReset = false ∧ State.reset.portFree ∧ State.reset.tableFree = true ∧
    (scrubHeld State.reset).tableFree = false ∧
    (1 ≤ 0x01 ∧ 0x01 ≤ 0x1C ∧ 0x1C ≤ 0x1C ∧ ([] : List Byte).length ≤ 100 ∧
      (List.replicate 100 0 : List Byte).length ≤ 100) ∧
    ((1 : Byte).toNat < 2 ∧ 102 < (103 : Byte).toNat ∧ ([2, 1, 0, 0] : List Byte).length ≠ (2 : Byte).toNat + 3 ∧
      ([2, 1, 0, 0, 0] : List Byte).drop 3 ≠ bytes16 (crc16 [2, 1, 0])) ∧
    (0x1C < (0x1D : Byte).toNat ∧ (0x1C : Byte).toNat ≤ 0x1C ∧ 2 < (3 : Byte).toNat ∧ (1 : Byte) ≠ 0) ∧
    (working (.frame 1 .operator []) .request).port = .working (.frame 1 .operator []) ∧
    (InHand.frame 0x0D .operator [1, 0, 0, 60]).runs (.setSettings .operator [1, 0, 0, 60]) = true ∧
    (InHand.frame 0x1C .operator []).runs (.clearTracking .operator (.fields ())) = true :=
  ⟨rfl, portFree_of_idle rfl, by decide, by decide, by decide, by decide +kernel, by decide, rfl, by decide, by decide⟩

/-- The part with a response held. -/
def holding (r : Response) : State := { State.reset with port := .answered r }

theorem witness_FramesCarryAnIntactCrcAndTheLayout :
    (∀ r, State.reset.port ≠ .answered r) ∧ (holding ⟨.ok, .empty⟩).port = .answered ⟨.ok, .empty⟩ :=
  ⟨fun r => by rw [show State.reset.port = .idle from rfl]; exact nofun, rfl⟩

/-! ### Witnesses: the window table's requests -/

/-- Every slot holds a record but the last. -/
def allButLast : State :=
  { State.reset with
    slots := Vector.ofFn fun i : Fin 64 =>
      { generation := 0, record := if i = 63 then none else some (flowRec .ended 0 4 0) } }

/-- Tag 812 is in the map. -/
def tagged : State :=
  { put 5 { flowRec .staged 2 4 0 with tag := 812 } State.reset with tagMap := [(812, 5)] }

theorem witness_OpenWindowWritesTheLowestFreeSlot :
    ∃ t b,
      checkOpen { openFields 5 0 9 with tag := 7 } = some (t, b) ∧
      State.reset.admission (openCmd { openFields 5 0 9 with tag := 7 }) = .granted ∧
      (∀ j, ((7 : BitVec 16), j) ∉ State.reset.tagMap) ∧ State.reset.recordAt 0 = none ∧
      (∀ j : SlotId, j < 0 → State.reset.recordAt j ≠ none) ∧
      allButLast.admission (openCmd { openFields 5 0 9 with tag := 7 }) = .granted ∧
      (∀ j, ((7 : BitVec 16), j) ∉ allButLast.tagMap) ∧ allButLast.recordAt 63 = none ∧
      ∀ j : SlotId, j < 63 → allButLast.recordAt j ≠ none :=
  ⟨_, _, rfl, by decide, by decide, by decide, by decide, by decide, by decide, by decide +kernel, by decide +kernel⟩

theorem witness_OpenWindowAnswersTheFirstFailingCheck :
    State.reset.admission (.openWindow .dispatch (.fields (openFields 0 1 0))) = .granted ∧
    checkOpen (openFields 6 0 0) = none ∧ checkOpen (openFields 0 8 0) = none ∧
    (checkOpen (openFields 0 1 0) ≠ none ∧ (openFields 0 1 0).cls ≤ 1 ∧ Issuer.dispatch ≠ .authority) ∧
    (checkOpen { openFields 0 2 0 with tag := 812 } ≠ none ∧ (812, 5) ∈ tagged.tagMap ∧
      tagged.admission (.openWindow .dispatch (.fields { openFields 0 2 0 with tag := 812 })) = .granted) ∧
    (∀ j, (put 63 (flowRec .ended 0 4 0) allButLast).recordAt j ≠ none) ∧
    (put 63 (flowRec .ended 0 4 0) allButLast).admission (openCmd (openFields 0 0 0)) = .granted := by decide +kernel

theorem witness_OpenWindowAcceptsExactlySoundFields :
    ([openFields 5 7 65535, pauseFields .any (some 12) 15, pauseFields .any (some 1) 0, pauseFields (.fixed 11) none 15,
      pauseFields (.fixed 0) (some 1) 0,
      { openFields 0 0 0 with startMode := some .trigger, triggerLine := some 7,
                              guard := some ⟨7, some false, some .wait⟩ }].all fun f => (checkOpen f).isSome) = true ∧
    ([openFields 6 7 0, openFields 5 8 0, pauseFields .any (some 13) 15, pauseFields .any (some 0) 15,
      pauseFields .any none 15, pauseFields .any (some 12) 16, pauseFields (.fixed 12) none 0,
      pauseFields (.fixed 0) (some 2) 0, { openFields 0 0 0 with startMode := some .trigger, triggerLine := some 8 },
      { openFields 0 0 0 with triggerLine := some 0 }, { openFields 0 0 0 with startMode := none },
      { openFields 0 0 0 with guard := some ⟨8, some false, some .wait⟩ }].all fun f => (checkOpen f).isNone) = true := by
  decide

/-- A record with an amendment staged. -/
def stagedRec (c : Check) : Record := { flowRec .active 0 4 5 with staged := some ⟨noChange, c⟩ }

/-- The conditions of an accepted AMEND_WINDOW by the record's owner, its handle 0.0. -/
def amendMet (r : Record) (f : AmendFields) : Bool :=
  decide ((put 0 r State.reset).admission (.amendWindow .dispatch (.fields f)) = .granted) &&
    decide (checkHandle f.handle = some ⟨0, 0⟩) && decide ((put 0 r State.reset).recordOf ⟨0, 0⟩ = some r) &&
    decide (r.owner = .dispatch) && !namesTopClass f && !r.retirePending && f.immutable.isEmpty &&
    (checkAmend r.target f).isSome

theorem witness_AmendmentOfAStagedRecordIsWrittenAtOnce :
    (flowRec .staged 0 4 5).life = .staged ∧ (flowRec .staged 0 4 5).check ≠ .uncorrectable ∧
    amendMet (flowRec .staged 0 4 5) { amendFields 0 0 with cls := some 2, startOffset := some 1 } = true ∧
    amendMet { flowRec .staged 0 4 5 with check := .singleBit } { amendFields 0 0 with length := some 1 } = true ∧
    amendMet { flowRec .staged 0 4 5 with check := .uncorrectable } { amendFields 0 0 with length := some 1 } = true := by
  decide

theorem witness_AmendmentOfALiveRecordIsHeld :
    ([flowRec .active 0 4 5, stagedRec .clean, stagedRec .singleBit, stagedRec .uncorrectable].all fun r =>
      r.life.mayStage && amendMet r { amendFields 0 0 with requestedFlow := some 9 }) = true ∧
    (armedRec 3).life.mayStage = true ∧ startOffsetFixed (armedRec 3).life = false ∧
    amendMet (armedRec 3) { amendFields 0 0 with startOffset := some 9 } = true := by decide

theorem witness_AmendWindowAnswersTheFirstFailingCheck :
    (put 0 (flowRec .active 0 4 5) State.reset).admission (.amendWindow .dispatch (.fields (amendFields 0 0))) = .granted ∧
    (checkHandle ⟨64, 0⟩ = none ∧ checkHandle ⟨63, 16⟩ = none ∧ checkHandle ⟨63, 15⟩ = some ⟨63, 15⟩) ∧
    (State.reset.recordOf ⟨0, 0⟩ = none ∧ (put 0 (flowRec .active 0 4 5) State.reset).recordOf ⟨0, 1⟩ = none) ∧
    (Issuer.operator ≠ (flowRec .active 0 4 5).owner ∧ namesTopClass { amendFields 0 0 with cls := some 1 } = true ∧
      namesTopClass { amendFields 0 0 with cls := some 2 } = false) ∧
    (put 0 { flowRec .active 0 4 5 with retirePending := true } State.reset).recordOf ⟨0, 0⟩ =
      some { flowRec .active 0 4 5 with retirePending := true } ∧
    (put 0 (flowRec .quarantined 0 4 5) State.reset).recordOf ⟨0, 0⟩ = some (flowRec .quarantined 0 4 5) ∧
    ({ amendFields 0 0 with immutable := [.tag] }.immutable ≠ [] ∧ startOffsetFixed (flowRec .active 0 4 5).life = true) ∧
    (checkAmend (.pass 0) (amendFields 0 0) = none ∧
      checkAmend (.pass 0) { amendFields 0 0 with length := some 1, malformed := true } = none) ∧
    State.reset.admission (.amendWindow .dispatch .mismatch) = .granted := by decide

theorem witness_RetireAndPurgeFreeSlots :
    (put 0 (flowRec .active 0 4 5) State.reset).admission (.retireWindow .dispatch (.fields ⟨0, 0⟩)) = .granted ∧
    (checkHandle ⟨0, 16⟩ = none ∧ checkHandle ⟨0, 0⟩ = some ⟨0, 0⟩) ∧
    (put 0 (flowRec .active 0 4 5) State.reset).recordOf ⟨0, 0⟩ = some (flowRec .active 0 4 5) ∧
    (put 0 (flowRec .ended 0 4 5) State.reset).recordOf ⟨0, 0⟩ = some (flowRec .ended 0 4 5) ∧
    (put 0 { flowRec .active 0 4 5 with retirePending := true } State.reset).recordOf ⟨0, 0⟩ =
      some { flowRec .active 0 4 5 with retirePending := true } ∧
    State.reset.recordOf ⟨0, 0⟩ = none ∧ Issuer.operator ≠ (flowRec .active 0 4 5).owner ∧
    State.reset.admission (.purge .operator (.fields ())) = .granted ∧ State.reset.time.opState = .standby ∧
    (inState .run State.reset).admission (.purge .operator (.fields ())) = .granted ∧
    (inState .run State.reset).time.opState ≠ .standby := by decide

theorem witness_ReadWindowReadsThroughTheCheck :
    checkHandle ⟨0, 0⟩ = some ⟨0, 0⟩ ∧
    (([flowRec .quarantined 0 4 5, { flowRec .active 0 4 5 with check := .uncorrectable }, stagedRec .clean,
      { flowRec .active 0 4 5 with check := .singleBit }, stagedRec .singleBit, stagedRec .uncorrectable,
      { stagedRec .singleBit with check := .singleBit }].all fun r =>
        decide ((put 0 r State.reset).admission (.readWindow .operator (.fields ⟨0, 0⟩)) = .granted) &&
          decide ((put 0 r State.reset).recordOf ⟨0, 0⟩ = some r)) = true) ∧
    State.reset.recordOf ⟨0, 0⟩ = none ∧ State.reset.admission (.readWindow .operator (.fields ⟨64, 16⟩)) = .granted ∧
    63 < (64 : Nat) ∧ 15 < (16 : Nat) := by decide

theorem tagged_agrees : tagged.TagMapAgrees := by
  refine ⟨fun t i => ?_, by decide⟩
  simp only [tagged, put, State.recordAt, State.reset, List.mem_singleton, Prod.mk.injEq]
  by_cases h : i = 5
  · subst h
    constructor
    · rintro ⟨rfl, -⟩
      exact ⟨by decide, _, rfl, rfl⟩
    · rintro ⟨-, r, hr, rfl⟩
      simp only [Fin.getElem_fin, Vector.getElem_set_self, Option.some.injEq] at hr
      rw [← hr]
      exact ⟨rfl, rfl⟩
  · have h' : (5 : SlotId).val ≠ i.val := fun e => h (Fin.ext e.symm)
    simp only [h, and_false, false_iff, not_and, not_exists]
    intro _ r hr
    rw [Fin.getElem_fin, Vector.getElem_set_ne _ _ h'] at hr
    simp [Slot.initial] at hr

theorem witness_LookupsAnswerAndChangeNothing :
    ([.readStatus .operator (.fields ()), .readInterval .operator (.fields ()), .readRotation .operator (.fields ()),
      .readLines .operator (.fields ()), .readCauses .operator (.fields ())].all fun i : Instr =>
        decide (State.reset.admission i = .granted)) = true ∧
    State.reset.flow.record = none ∧ (after .edgeClaimGrant (edgeHeld .timed State.reset)).flow.record.isSome = true ∧
    tagged.admission (.findTag .operator (.fields 812)) = .granted ∧ tagged.TagMapAgrees ∧
    tagged.recordAt 5 = some { flowRec .staged 2 4 0 with tag := 812 } ∧
    ∀ i, ((tagged.recordAt i).all fun r => decide (r.tag ≠ 811)) = true :=
  ⟨by decide, rfl, by decide +kernel, by decide, tagged_agrees, by decide, by decide +kernel⟩

theorem witness_ListWindowsMissesNoMatch :
    State.reset.admission (.listWindows .operator (.fields ⟨[some .free], .all, .all, .all, 64⟩)) = .granted ∧
    ¬ListFields.faulty ⟨[some .free], .all, .all, .all, 64⟩ ∧
    ¬ListFields.faulty ⟨[some .active], .only .unitPause, .only (.fixed 11), .only .authority, 0⟩ ∧
    ListFields.faulty ⟨[some .free], .all, .all, .all, 65⟩ ∧
    ListFields.faulty ⟨[some .active], .all, .only (.fixed 12), .all, 0⟩ ∧ ListFields.faulty ⟨[], .all, .all, .all, 0⟩ := by
  simp [ListFields.faulty, RawTarget.onStation]
  decide

/-- LIST_WINDOWS of a table with slots 0 to 62 ENDED: the eighth match ends the walk; the FREE slot is the last. -/
theorem test_list_cursors :
    ((listWalk (fun sl => sl.record.isSome) 8 (allButLast.slotsFrom 50)).2,
      (listWalk (fun sl => sl.record.isSome) 8 (allButLast.slotsFrom 56)).2,
      (listWalk (fun sl => sl.record.isNone) 8 (allButLast.slotsFrom 0)).1.map (·.1.slot)) = (58, 64, [63]) := by
  decide +kernel

/-! ### Witnesses: the edge -/

/-- The edge claim of kind TIMED holds the table, and slot 0 holds a record. -/
def atEdge (r : Record) : State := edgeHeld .timed (put 0 r State.reset)

theorem atEdge_granted (r : Record) : (atEdge r).edgeGranted .timed := ⟨rfl, rfl⟩

theorem case1_granted : case1.edgeGranted .timed := ⟨rfl, rfl⟩

/-- Section 6.9 with an inflow of 500: both tiers are scaled and the delivered flow is above the inflow. -/
def caseLow : State := { case1 with flow := { case1.flow with heldInflow := some 500 } }

theorem witness_EdgeOpensAnInterval :
    (edgeHeld .start State.reset).edgeGranted .start ∧ case1.edgeGranted .timed ∧ case1.flow.heldInflow = some 1800 ∧
    (after .edgeClaimGrant case1).flow.age < (after .edgeClaimGrant case1).flow.live.staleLimit ∧
    (edgeHeld .start State.reset).flow.heldInflow = none ∧ State.reset.inReset = false ∧
    State.reset.arb.holder = .nobody :=
  ⟨⟨rfl, rfl⟩, case1_granted, rfl, by decide +kernel, rfl, rfl, rfl⟩

/-- A binding of each kind: staged, a used pulse, a fresh pulse, another. -/
def boundState : State :=
  edgeHeld .timed
    { State.reset with
      flow :=
        { State.reset.flow with
          bindings :=
            #v[⟨.idle, 0, false, some (.manualPulse, 4)⟩, ⟨.manualPulse, 0, true, none⟩, ⟨.manualPulse, 0, false, none⟩,
              ⟨.manual, 0, false, none⟩, ⟨.idle, 0, false, none⟩, ⟨.idle, 0, false, none⟩] } }

theorem witness_EdgeTakesStagedSettingsAndBindings :
    boundState.edgeGranted .timed ∧ boundState.flow.bindings[(0 : PassId)].staged = some (.manualPulse, 4) ∧
    boundState.flow.bindings[(1 : PassId)].pulse = true ∧ boundState.flow.bindings[(2 : PassId)].pulse = false ∧
    boundState.flow.bindings[(3 : PassId)].live ≠ .manualPulse := ⟨⟨rfl, rfl⟩, rfl, rfl, rfl, by decide⟩

theorem witness_EdgeFreesRetiredAndKeepsQuarantinedSlots :
    (atEdge { flowRec .active 0 4 5 with retirePending := true }).edgeGranted .timed ∧
    (atEdge { flowRec .active 0 4 5 with retirePending := true }).recordAt 0 =
      some { flowRec .active 0 4 5 with retirePending := true } ∧
    (atEdge (flowRec .active 0 4 5)).recordAt 1 = none ∧
    (atEdge (flowRec .quarantined 0 4 5)).recordAt 0 = some (flowRec .quarantined 0 4 5) ∧
    (atEdge { flowRec .active 0 4 5 with check := .uncorrectable }).recordAt 0 =
      some { flowRec .active 0 4 5 with check := .uncorrectable } :=
  ⟨⟨rfl, rfl⟩, rfl, by decide, rfl, rfl⟩

theorem witness_EdgeAppliesTheStagedAmendmentFirst :
    (atEdge (stagedRec .singleBit)).edgeGranted .timed ∧
    (atEdge (stagedRec .singleBit)).recordAt 0 = some (stagedRec .singleBit) ∧
    (stagedRec .singleBit).life ≠ .quarantined ∧ (stagedRec .singleBit).staged = some ⟨noChange, .singleBit⟩ ∧
    (atEdge (stagedRec .uncorrectable)).recordAt 0 = some (stagedRec .uncorrectable) ∧
    (stagedRec .uncorrectable).check ≠ .uncorrectable := ⟨⟨rfl, rfl⟩, rfl, by decide, rfl, rfl, by decide⟩

/-- A record with a length and elapsed. -/
def timedRec (life : Life) (length elapsed : Nat) : Record :=
  { flowRec life 0 4 5 with body := { (flowRec life 0 4 5).body with length := length, elapsed := elapsed } }

theorem witness_EdgeAdvancesServingRecords :
    ([timedRec .active 2 1, timedRec .active 2 0, timedRec .active 0 65550, timedRec .suspended 2 2,
      timedRec .suspended 2 1, timedRec .ended 2 2].all fun r =>
        decide ((atEdge r).recordAt 0 = some r) && decide (r.check ≠ .uncorrectable) && !r.retirePending &&
          r.staged.isNone) = true ∧
    (spanOf (.pass 0) (timedRec .active 2 1).body ≤ min (1 + 1) 65550 ∧
      min (0 + 1) 65550 < spanOf (.pass 0) (timedRec .active 2 0).body) ∧
    (spanOf (.pass 0) (timedRec .suspended 2 2).body ≤ 2 ∧ 1 < spanOf (.pass 0) (timedRec .suspended 2 1).body) := by
  decide

/-- A PENDING record with a lead and a SKIP guard on C1. -/
def pendingRec (lead : Nat) : Record :=
  { flowRec .pending 0 4 5 with
    body := { (flowRec .pending 0 4 5).body with lead := lead, guard := some ⟨1, true, .skip⟩ } }

/-- Line 3 enabled in HIGH mode at a high level. -/
def lineHigh (s : State) : State :=
  { s with
    sensors := s.sensors.set 3 { SensorLine.initial with mode := .high, enable := true, filter := ⟨some true, true⟩ } }

theorem witness_EdgeArmsCountsAndStartsRecords :
    ([flowRec .staged 0 4 5, { armedRec 3 with life := .staged }, armedRec 3, pendingRec 0, pendingRec 1,
      pendingRec 2].all fun r =>
        decide ((atEdge r).recordAt 0 = some r) && decide (r.check ≠ .uncorrectable) && !r.retirePending &&
          r.staged.isNone) = true ∧
    ((lineHigh (atEdge (armedRec 3))).sensors[(3 : LineId)].mode = .high ∧
      (lineHigh (atEdge (armedRec 3))).sensors[(3 : LineId)].filter.level = true) ∧
    (atEdge (armedRec 3)).sensors[(3 : LineId)].enable = false ∧
    (after .edgeClaimGrant (atEdge (pendingRec 1))).hasCause .nullified = true ∧
    (after .edgeClaimGrant (atEdge { pendingRec 9 with life := .staged })).hasCause .nullified = true ∧
    (after .edgeClaimGrant (atEdge (pendingRec 2))).hasCause .nullified = false := by
  decide +kernel

theorem witness_DemandSetNamesTheServedRecords : case1.edgeGranted .timed := case1_granted

/-- An ANY claim for one unit that no table names, and a claim for U4, which is out of service. -/
def casePause : State :=
  edgeHeld .timed (put 0 (pauseRec .any 1 1) (put 1 (pauseRec (.fixed 4) 1 0) State.reset))

theorem witness_DemandSetNamesThePauseClaims :
    casePause.edgeGranted .timed ∧
    ((after .edgeClaimGrant casePause).demand.map fun d => d.claims.map (·.count)) = some [1, 1] :=
  ⟨⟨rfl, rfl⟩, by decide +kernel⟩

/-- P0 forced by a QUARANTINED record, P1 MANUAL, P2 SCHEDULED, the others IDLE. -/
def caseForced : State :=
  let s := setPass 0 ⟨300, 0, 0, 20⟩ 0 (setPass 2 ⟨500, 0, 0, 0⟩ 0 (atEdge (flowRec .quarantined 0 4 5)))
  { s with flow := { s.flow with bindings := s.flow.bindings.set 1 ⟨.manual, 7, false, none⟩ } }

theorem witness_TargetsFollowBindingAndForce :
    caseForced.edgeGranted .timed ∧
    ((after .edgeClaimGrant caseForced).flow.record.map fun r =>
      (r.passes.map fun x => (x.forced, x.binding, x.target)).toList) =
    some [(true, .scheduled, 20), (false, .manual, 7), (false, .scheduled, 0), (false, .idle, 0), (false, .idle, 0),
      (false, .idle, 0)] := ⟨⟨rfl, rfl⟩, by decide +kernel⟩

theorem witness_TiersShareTheBudget :
    caseLow.edgeGranted .timed ∧
    ((after .edgeClaimGrant caseLow).flow.record.map fun r =>
      decide (r.w0 < r.d0) && decide (r.w1 < r.d1)) = some true ∧
    ((after .edgeClaimGrant case1).flow.record.map fun r =>
      decide (r.d0 ≤ r.w0) && decide (r.d1 ≤ r.w1)) = some true :=
  ⟨⟨rfl, rfl⟩, by decide +kernel, by decide +kernel⟩

theorem witness_ServedFiguresShareTheGrant : case1.edgeGranted .timed := case1_granted

theorem case1_inRange : case1.SettingsInRange := by
  refine ⟨⟨by decide, by decide, by decide, ?_, by decide, by decide⟩, ?_, ?_, ?_, by decide, by decide, ?_⟩
  · show ∀ p : PassId, _ ≤ _ ∧ _ ≤ _ ∧ _ ≤ _ ∧ _ ≤ _
    decide +kernel
  · refine ⟨nofun, nofun, nofun, fun p => ?_, fun u => ?_, ?_⟩
    · have h : case1.flow.staged.passes[p] = ⟨none, none, none, none⟩ := by revert p; decide +kernel
      rw [h]
      exact ⟨nofun, nofun, nofun, fun _ => nofun⟩
    · have h : case1.flow.staged.ratings[u] = none := by revert u; decide +kernel
      rw [h]
      nofun
    · have h : case1.flow.staged.classMap[(0 : ClassId)] = none := by decide +kernel
      rw [h]
      nofun
  · intro p
    have h : case1.flow.bindings[p].setpoint = 0 ∧ case1.flow.bindings[p].staged = none := by revert p; decide +kernel
    exact ⟨by rw [h.1]; exact Nat.zero_le _, by rw [h.2]; nofun⟩
  · rintro x hx
    cases hx
    decide
  · intro h
    cases h

theorem witness_DeliveredSetpointIsRamped :
    case1.edgeGranted .timed ∧ case1.SettingsInRange ∧
    (edgeHeld .holdEntry State.reset).edgeGranted .holdEntry ∧ State.reset.flow.live.style = .safe ∧
    ((after .edgeClaimGrant case1).flow.record.map fun r =>
      decide (case1.flow.delivered[(2 : PassId)] < r.passes[(2 : PassId)].target) &&
        decide (r.passes[(3 : PassId)].target = case1.flow.delivered[(3 : PassId)])) = some true ∧
    ((after .edgeClaimGrant caseLow).flow.record.map fun r =>
      decide (r.passes[(0 : PassId)].target < caseLow.flow.delivered[(0 : PassId)])) = some true :=
  ⟨case1_granted, case1_inRange, ⟨rfl, rfl⟩, rfl, by decide +kernel, by decide +kernel⟩

theorem witness_EdgeBalancesTheRiver :
    caseLow.edgeGranted .timed ∧
    ((after .edgeClaimGrant caseLow).flow.record.map fun r => decide (r.qUsed < r.d)) = some true ∧
    ((after .edgeClaimGrant case1).flow.record.map fun r => decide (r.d ≤ r.qUsed)) = some true :=
  ⟨⟨rfl, rfl⟩, by decide +kernel, by decide +kernel⟩

theorem witness_EdgeWorksTheAssignmentLists :
    casePause.edgeGranted .timed ∧
    ((after .edgeClaimGrant casePause).demand.map fun d => decide ((0 : SlotId) ∈ d.release)) = some false ∧
    ((after .edgeClaimGrant (edgeHeld .timed
      (put 0 { pauseRec .any 1 1 with retirePending := true } State.reset))).demand.map
        fun d => decide ((0 : SlotId) ∈ d.release)) = some true :=
  ⟨⟨rfl, rfl⟩, by decide +kernel, by decide +kernel⟩

/-- Section 7.7: an ANY claim for one unit, pointer 3, every unit AVAILABLE. -/
def caseWalk (load : Bool) : State :=
  edgeHeld .timed
    { put 0 (pauseRec .any 1 1) State.reset with
      pause := { State.reset.pause with
        availability := Vector.replicate 12 .available, live := rotation, shadow := rotation, pointer := 3,
        loadPending := load } }

/-- Beside that claim two FIXED claims of higher slots that name U2. -/
def caseFixed : State := put 1 (pauseRec (.fixed 2) 1 1) (put 2 (pauseRec (.fixed 2) 1 1) (caseWalk false))

/-- The lower FIXED claim is served with U2, before the walk of the ANY claim of slot 0, which takes U9. -/
theorem witness_ClaimsAreServedWhereTheyCanBe :
    casePause.edgeGranted .timed ∧
    ((after .edgeClaimGrant casePause).demand.map fun d =>
      d.claims.map fun c => (c.target, decide ((after .edgeClaimGrant casePause).pause.lists[c.slot].length < c.count))) =
    some [(.any, true), (.fixed 4, true)] ∧
    caseFixed.edgeGranted .timed ∧
    ((after .edgeClaimGrant caseFixed).demand.map fun d =>
      d.claims.map fun c => (c.target, caseFixed.pause.kept d c.slot)) = some [(.any, []), (.fixed 2, []), (.fixed 2, [])] ∧
    ((after .edgeClaimGrant caseFixed).pause.lists[0], (after .edgeClaimGrant caseFixed).pause.lists[1],
      (after .edgeClaimGrant caseFixed).pause.lists[2]) = ([⟨9, .unload, 1⟩], [⟨2, .unload, 1⟩], []) :=
  ⟨⟨rfl, rfl⟩, by decide +kernel, ⟨rfl, rfl⟩, by decide +kernel, by decide +kernel⟩

/-- The walk takes U2 at phase 3 and leaves the pointer at 4; after a load it takes U2 at phase 0 and leaves it at 1; where no
unit qualifies the pointer stays. -/
theorem test_pointer_after_a_walk :
    ((after .edgeClaimGrant (caseWalk false)).pause.pointer, (after .edgeClaimGrant (caseWalk false)).pause.lists[0],
      (after .edgeClaimGrant (caseWalk true)).pause.pointer, (after .edgeClaimGrant casePause).pause.pointer) =
    (4, [⟨2, .unload, 1⟩], 1, 0) := by decide +kernel

theorem witness_UnitOrderSetFollowsTheLists :
    casePause.edgeGranted .timed ∧ casePause.pause.loadPending = false ∧
    (edgeHeld .timed { State.reset with pause := { State.reset.pause with loadPending := true } }).edgeGranted .timed :=
  ⟨⟨rfl, rfl⟩, rfl, ⟨rfl, rfl⟩⟩

/-- A frame, to be sending. -/
def someFrame : OrderFrame :=
  { interval := 1, kind := some .start, standby := false, hold := false, deficit := false, stale := false,
    forced := Vector.replicate 6 false, setpoints := Vector.replicate 6 0, tt := 0, spill := 0, qUsed := 0 }

/-- While a frame is sent, U7 stands on the list of the ANY claim and U8 on that of a record that retires. -/
def caseLines : State :=
  let s := put 5 { pauseRec .any 1 1 with retirePending := true } (caseWalk false)
  { s with
    out := { s.out with sending := some someFrame }
    pause := { s.pause with
      lists := (s.pause.lists.set 0 [⟨7, .unload, 1⟩]).set 5 [⟨8, .stop, 0⟩]
      lines := (s.pause.lines.set 7 { unload := true, stop := false }).set 8 { unload := false, stop := true } } }

/-- U7 keeps UNLOAD although it has come to STOP, since its frame waits; the lines of U8 are low. -/
theorem witness_EdgeHandsItsOrderFrame :
    case1.edgeGranted .timed ∧ case1.out.sending = none ∧ caseLines.edgeGranted .timed ∧ caseLines.out.sending ≠ none ∧
    ((after .edgeClaimGrant caseLines).demand.map fun d => (caseLines.pause.kept d 0, caseLines.pause.kept d 5)) =
      some ([⟨7, .unload, 1⟩], []) ∧
    ((after .edgeClaimGrant caseLines).pause.lists[0], (after .edgeClaimGrant caseLines).pause.lines[7],
      (after .edgeClaimGrant caseLines).pause.lines[8]) =
      ([⟨7, .stop, 0⟩], { unload := true, stop := false }, { unload := false, stop := false }) :=
  ⟨case1_granted, rfl, ⟨rfl, rfl⟩, by decide, by decide +kernel, by decide +kernel⟩

theorem witness_HoldIsComparedWhenAnEdgeIsReleased :
    case1.edgeGranted .timed ∧ case1.arb.waitEdge = none ∧ case1.time.opState = .run ∧
    State.holdLevel { case1 with time := { case1.time with hostHold := true } } = true ∧ case1.latches = [] ∧
    (inState (.hold .run 5) case1).edgeGranted .timed ∧ (inState (.hold .run 5) case1).holdLevel = false :=
  ⟨case1_granted, rfl, rfl, by decide, rfl, ⟨rfl, rfl⟩, by decide⟩

/-! ### Witnesses: the timebase and the hold -/

def stop : Instr := .stop .operator (.fields ())
def holdOn : Instr := .holdOn .operator (.fields ())
def holdOff : Instr := .holdOff .operator (.fields ())

/-- Held by the host, with a timebase source. -/
def held (src : TimeSource) (s : State) : State := { s with time := { s.time with hostHold := true, source := src } }

theorem witness_StartActsByHoldAndTimebase :
    State.reset.admission startCmd = .granted ∧ State.reset.time.opState = .standby ∧ State.reset.holdLevel = false ∧
    State.reset.time.source = .internal ∧ State.reset.latches = [] ∧
    ((held .internal State.reset).admission startCmd = .granted ∧ (held .internal State.reset).holdLevel = true) ∧
    ({ State.reset with time := { State.reset.time with source := .follow } }.admission startCmd = .granted) ∧
    (inState .run State.reset).admission startCmd = .granted := by decide

theorem witness_StopStandsThePartDown :
    State.reset.admission stop = .granted ∧ (inState .run State.reset).admission stop = .granted ∧
    (inState .run State.reset).time.opState ≠ .standby ∧ State.reset.out.sentSinceStart = false ∧
    { State.reset.out with sentSinceStart := true, sending := some someFrame }.sending ≠ none := by decide

theorem witness_HoldRequestsActByStateAndOrigin :
    ([State.reset, inState .run State.reset, inState .syncing State.reset].all fun s =>
      decide (s.admission holdOn = .granted) && !s.holdLevel && decide (s.arb.waitEdge = none)) = true ∧
    ([held .internal (inState (.hold .run 5) State.reset), held .follow (inState (.hold .syncing 0) State.reset),
      held .internal (inState (.hold .starting 0) State.reset), held .follow (inState (.hold .starting 0) State.reset)].all
        fun s => decide (s.admission holdOff = .granted) && s.time.hostHold && !s.time.holdLine.level &&
          decide (s.arb.waitEdge = none)) = true := by decide

theorem witness_HoldLineIsTakenByTheTimebase :
    ([inState .run State.reset, inState .syncing State.reset].all fun s =>
      !s.inReset && !s.time.holdLine.level && !s.time.hostHold && !s.edgeOutstanding) = true ∧
    ([inState (.hold .run 5) State.reset, inState (.hold .syncing 0) State.reset,
      inState (.hold .starting 0) State.reset].all fun s =>
        !{ s with time := { s.time with holdLine := ⟨some true, true⟩ } }.edgeOutstanding && !s.time.hostHold) = true ∧
    (edgeHeld .timed State.reset).edgeOutstanding = true := by decide

theorem witness_ExpiriesRaiseTimedAndSelfEdges :
    ({ State.reset with time := { State.reset.time with opState := .run, timerRunning := true } }.edgeOutstanding =
      false) ∧
    (following State.reset).time.windowOpen = true ∧ (following State.reset).edgeOutstanding = false ∧
    State.reset.time.timerRunning = false ∧ State.reset.time.windowOpen = false ∧
    (edgeHeld .timed State.reset).edgeOutstanding = true := by decide

/-- With L 15 minutes a mark at 450000 ms is a MARK edge, and one at 449999 ms is early. -/
theorem witness_MarkIsJudgedByStateAndTime :
    (inState .syncing State.reset).time.opState = .syncing ∧ (following State.reset).inReset = false ∧
    (following State.reset).edgeOutstanding = false ∧ 30000 * (following State.reset).time.lengthMin ≤ 450000 ∧
    449999 < 30000 * (following State.reset).time.lengthMin ∧ State.reset.time.opState = .standby ∧
    State.reset.time.markFilter.previous ≠ some true ∧
    { State.reset.time with markFilter := ⟨some true, false⟩ }.markFilter.previous = some true := by decide

theorem test_mark_at_the_limit :
    (after (.mark 450000) (following State.reset)).arb.holder = .edge .mark ∧
    (after (.mark 449999) (following State.reset)).hasCause .earlyMark = true := by decide

/-! ### Witnesses: the sensor block -/

theorem witness_LineSamplesMakeEventsAndLatches :
    State.reset.inReset = false ∧
    (case87.sensors[(3 : LineId)].enable = true ∧ case87.sensors[(3 : LineId)].mode = .rise ∧
      case87.sensors[(3 : LineId)].filter.previous ≠ some true) ∧
    (after (.sensorLineSample 3 true) case87).sensors[(3 : LineId)].filter = ⟨some true, false⟩ ∧
    ((lineHigh State.reset).sensors[(3 : LineId)].mode = .high ∧
      (lineHigh State.reset).sensors[(3 : LineId)].filter.level = true) ∧
    { case87.sensors[(3 : LineId)] with mode := .fall }.mode = .fall ∧
    State.reset.sensors[(3 : LineId)].enable = false ∧
    (after (.lineEvent 3 .rise) State.reset).sensors[(3 : LineId)].pending = false ∧
    (lineHigh State.reset).sensors[(3 : LineId)].enable = true ∧
    (after (.lineEvent 3 .rise) (lineHigh State.reset)).latches = [] := by decide +kernel

theorem witness_LatchReachesArmedRecords :
    { case87 with latches := [3] }.latches = 3 :: [] ∧ case87.arb.holder = .nobody ∧ case87.inReset = false ∧
    case87.recordAt 22 = some (armedRec 3) ∧ (armedRec 3).life = .armed ∧ (armedRec 3).check ≠ .uncorrectable ∧
    (put 22 { armedRec 3 with check := .uncorrectable } case87).recordAt 22 =
      some { armedRec 3 with check := .uncorrectable } ∧
    (put 22 { armedRec 3 with check := .singleBit } case87).latchFixes 22 = 1 ∧
    (edgeHeld .timed case87).arb.holder ≠ .nobody ∧ case87.latches.head? ≠ some 3 := by decide +kernel

theorem witness_SensorRequestsWriteWhatTheyName :
    State.reset.admission (.setLine .operator (.fields ⟨7, some .high, some true, some .fast, 7⟩)) = .granted ∧
    State.reset.admission (.setLine .operator (.fields ⟨8, some .high, some true, some .fast, 7⟩)) = .granted ∧
    (∀ n ∈ [0, 7], n ≤ 7) ∧ (∃ n ∈ [8], 7 < n) ∧ State.reset.admission (.ackLines .operator (.fields [0, 7])) = .granted ∧
    State.reset.admission (.setCondition .operator (.fields ⟨7, some true⟩)) = .granted ∧
    State.reset.admission (.setConditionSource .operator (.fields ⟨1, .line 7 (some true)⟩)) = .granted := by decide

/-! ### Witnesses: settings, bindings, reports and the causes -/

theorem witness_SettingsBodyIsCheckedItemByItem :
    checkSettings (item 1 0 60) = some [(.length, 60)] ∧ checkSettings (item 1 0 61) = none ∧
    ((checkSettings ((List.range 6).flatMap (fun p => item 6 p 2000 ++ item 7 p 0 ++ item 8 p 0 ++ item 9 p 65535) ++
      item 5 0 16)).map (·.length)) = some 25 ∧
    checkSettings ((List.range 6).flatMap (fun p => item 6 p 2000 ++ item 7 p 0 ++ item 8 p 0 ++ item 9 p 65535) ++
      item 5 0 16 ++ item 3 0 0) = none ∧
    ([0, 0, 0] : List Byte).length % 4 ≠ 0 := by decide +kernel

theorem witness_SetSettingsWritesOrStages :
    State.reset.admission (settingsCmd []) = .granted ∧ checkSettings [] = none ∧
    checkSettings (item 0x0D 0 0) = some [(.scrubber, 0)] ∧
    State.reset.admission (settingsCmd (item 1 0 60)) = .granted ∧ checkSettings (item 1 0 60) = some [(.length, 60)] ∧
    itemValue .length [(.length, 60)] = some 60 ∧
    (inState .run State.reset).admission (settingsCmd (item 1 0 60)) = .granted ∧
    (inState .run State.reset).admission (settingsCmd (item 0x0D 0 0)) = .granted ∧
    State.reset.flow.staged = .none := by decide +kernel

/-- Twelve units AVAILABLE, and thirty-two entries of U11. -/
theorem witness_BindingsReportsAndLoadsAreHeld :
    State.reset.admission (.setBinding .operator (.fields ⟨5, some .manual, 1⟩)) = .granted ∧
    State.reset.admission (.setBinding .operator (.fields ⟨6, some .manual, 1⟩)) = .granted ∧
    State.reset.admission (.reportInflow .operator (.fields 60001)) = .granted ∧
    State.reset.admission (.reportUnits .operator (.fields (List.replicate 12 (some .available)))) = .granted ∧
    List.replicate 12 (some Availability.available) = (Vector.replicate 12 Availability.available).toList.map some ∧
    State.reset.admission (.loadRotation .operator (.fields (List.replicate 32 11))) = .granted ∧
    List.replicate 32 11 =
      (Vector.replicate 32 (some (11 : UnitId))).toList.map (fun e => e.elim 15 (·.val)) ∧
    (∃ n ∈ [12], 11 < n ∧ n ≠ 15) := by decide

/-- REPORT_INFLOW at the limit and above it. -/
theorem test_inflow_clamp :
    (after (.reportInflow .operator (.fields 60000)) State.reset).port = .answered ⟨.ok, .empty⟩ ∧
    (after (.reportInflow .operator (.fields 60001)) State.reset).port = .answered ⟨.okClamped, .empty⟩ := by decide

theorem witness_CauseRequestsClearAndMask :
    State.reset.admission (.ackCauses .operator (.fields [some .recordQuarantined])) = .granted ∧
    State.reset.admission (.ackCauses .operator (.fields [none])) = .granted ∧
    State.reset.admission (.setAlertMask .operator (.fields [some .linePending])) = .granted ∧
    State.reset.admission (.setAlertMask .operator (.fields [some .recordQuarantined])) = .granted ∧
    State.reset.admission (.clearTracking .operator (.fields ())) = .granted := by decide

/-! ### Witnesses: the integrity block, order output and reset -/

theorem case106_banks : case106.BanksInRange := by
  show ∀ b : BankId, _ ≤ _
  decide +kernel

theorem witness_CorrectionsAreCountedToTheirLimit : case106.BanksInRange := case106_banks

theorem witness_ScrubberPresentsItsStepAndReadsOneSlot :
    State.reset.inReset = false ∧ State.reset.scrub.enable = true ∧ State.reset.tableFree = true ∧
    (edgeHeld .timed State.reset).tableFree = false ∧ { State.reset.scrub with enable := false }.enable = false ∧
    case106.arb.holder = .scrubber ∧ State.reset.arb.holder ≠ .scrubber ∧
    case106.recordAt case106.scrub.next =
      some { flowRec .active 4 0 0 with check := .singleBit, staged := some ⟨noChange, .singleBit⟩ } ∧
    (scrubHeld (put 0 (stagedRec .uncorrectable) State.reset)).recordAt 0 = some (stagedRec .uncorrectable) ∧
    (scrubHeld (put 0 { flowRec .active 0 4 5 with check := .uncorrectable } State.reset)).recordAt 0 =
      some { flowRec .active 0 4 5 with check := .uncorrectable } := by decide +kernel

theorem witness_FrameEndStartsTheNextFrame :
    State.reset.inReset = false ∧ State.reset.out.sending = none ∧
    ({ State.reset.out with sending := some someFrame }.sending = some someFrame) ∧
    ({ State.reset.out with waitStandDown := some someFrame }.waitStandDown = some someFrame) ∧
    (after .frameTransmitDone
      { State.reset with out := { State.reset.out with
          sending := some someFrame, waitOrder := some (someFrame, Vector.replicate 12 ⟨.available, some .stop, some 0⟩) }
        }).pause.lines[(11 : UnitId)] = ⟨false, true⟩ := by decide

theorem witness_ResetHoldsAndReleasesThePart :
    (10000 ≤ 10000 ∧ 1000 ≤ 1000 ∧ 9999 < 10000 ∧ 999 < 1000) ∧ State.reset.inReset = false ∧
    State.reset.heldInReset.inReset = true ∧ Instr.edgeClaimGrant ≠ .leaveReset ∧
    after (.fullReset (.resetLow 999)) State.reset = State.reset ∧
    (after (.fullReset (.resetLow 10000)) State.reset).inReset = true := by decide +kernel

/-! ### Witnesses: the laws every step keeps -/

/-- The state with a command in front. -/
def before (i : Instr) (s : State) : State := { s with pending := i :: s.pending }

/-- A unit on a list, its STOP line high. -/
def stopping : State :=
  { State.reset with
    pause := { State.reset.pause with
      lists := State.reset.pause.lists.set 0 [⟨2, .stop, 0⟩], lines := State.reset.pause.lines.set 2 ⟨false, true⟩ } }

theorem witness_AlertAgreementIsKept :
    (before (.clearTracking .operator (.fields ())) State.reset).AlertAgrees ∧
    ∃ t, step (before (.clearTracking .operator (.fields ())) State.reset) = .next t :=
  ⟨(State.alertAgrees_iff _).2 (by decide), _, rfl⟩

theorem witness_ReadyAgreementIsKept :
    (before startCmd State.reset).ReadyAgrees ∧ ∃ t, step (before startCmd State.reset) = .next t :=
  ⟨⟨⟨fun _ => ⟨rfl, portFree_of_idle rfl⟩, fun _ => rfl⟩, fun _ => rfl⟩, _, rfl⟩

theorem witness_TagMapAgreementIsKept :
    tagged.TagMapAgrees ∧ ∃ t, step tagged = .next t := ⟨tagged_agrees, _, rfl⟩

theorem witness_BankCountersStayInRange :
    (before .scrubStep case106).BanksInRange ∧ ∃ t, step (before .scrubStep case106) = .next t :=
  ⟨case106_banks, _, rfl⟩

theorem witness_UnitListAndLineLawsAreKept :
    stopping.UnitsOnce ∧ stopping.LinesAgree ∧ ∃ t, step stopping = .next t := by
  refine ⟨?_, ⟨?_, ?_, fun f u h => ?_⟩, _, rfl⟩
  · unfold State.UnitsOnce
    decide +kernel
  · decide +kernel
  · decide +kernel
  · exact absurd (show none = some (f, u) from h) (Option.some_ne_none _).symm

theorem witness_TimerAndEdgeClaimAgreementIsKept :
    case1.TimerAgrees ∧ case1.OneEdge ∧ ∃ t, step (before .edgeClaimGrant case1) = .next t := by
  refine ⟨⟨by decide, by decide, ?_⟩, ⟨fun _ => rfl, fun h => by cases h⟩, _, rfl⟩
  rintro (h | ⟨e, h⟩) <;> cases h

theorem witness_SettingsStayInRange :
    case1.SettingsInRange ∧ ∃ t, step (before .edgeClaimGrant case1) = .next t := ⟨case1_inRange, _, rfl⟩

theorem tagged_fits : tagged.RecordsFit := by
  intro i r h
  simp only [tagged, put, State.recordAt, State.reset, Fin.getElem_fin, Vector.getElem_set] at h
  split at h
  · cases h
    exact ⟨by simp [RecordBody.fits, fieldFits, atMost, flowRec, Target.kind, Config.maxPassFlow, Config.maxElapsed],
      fun a h => absurd (show none = some a from h) (Option.some_ne_none a).symm⟩
  · simp [Slot.initial] at h

/-- The settings of section 6.9 with one STAGED record. -/
def recordCase : State := before .edgeClaimGrant { case1 with slots := tagged.slots }

theorem witness_RecordsStayWellFormed :
    recordCase.SettingsInRange ∧ recordCase.RecordsFit ∧ ∃ t, step recordCase = .next t :=
  ⟨case1_inRange, tagged_fits, _, rfl⟩

end Sys2Proof.Tests
end

/-! # Proofs of the window table

The lemmas come in layers: the tag map and what one event at a slot does to it; what each request of the table can do, said
once; `KeepsTable`, by which a property of the table is kept by every step; then each statement of the family, after the
facts it needs about the checks, the frames, the counted corrections and the reset state. -/

namespace Sys2Proof.Machine

/-! ## The tag map and the slots -/

/-- The tag of the record a slot holds, where it holds one. -/
def Slot.tag? (sl : Slot) : Option (BitVec 16) := sl.record.map (·.tag)

theorem Slot.tag?_eq_some {sl : Slot} {t : BitVec 16} : sl.tag? = some t ↔ ∃ r, sl.record = some r ∧ r.tag = t := by
  simp [Slot.tag?]

theorem Slot.tag?_isSome (sl : Slot) : sl.tag?.isSome = sl.record.isSome := by simp [Slot.tag?]

/-- An event at a slot frees it or leaves a record with the slot's tag. -/
def SlotEffect.keepsTag (e : SlotEffect) (sl : Slot) : Prop := e.slot.record = none ∨ e.slot.tag? = sl.tag?

/-- R15, slot by slot: what the entries of a map in agreement are. -/
theorem State.tagMapAgrees_iff {s : State} :
    s.TagMapAgrees ↔ (∀ t i, (t, i) ∈ s.tagMap ↔ t ≠ 0 ∧ s.slots[i].tag? = some t) ∧ (s.tagMap.map (·.1)).Nodup := by
  simp only [State.TagMapAgrees, State.recordAt, Slot.tag?_eq_some]

/-- The agreement depends on the map and the tags alone. -/
theorem State.tagMapAgrees_congr {s t : State} (hm : t.tagMap = s.tagMap)
    (hs : ∀ i : SlotId, t.slots[i].tag? = s.slots[i].tag?) (h : s.TagMapAgrees) : t.TagMapAgrees := by
  rw [State.tagMapAgrees_iff] at h ⊢
  simpa only [hm, hs] using h

/-- Where slots are freed and the map loses exactly their entries, the agreement is kept. -/
theorem State.tagMapAgrees_of_freed {s t : State}
    (hm : t.tagMap = s.tagMap.filter fun e => t.slots[e.2].record.isSome)
    (hs : ∀ i : SlotId, t.slots[i].record = none ∨ t.slots[i].tag? = s.slots[i].tag?) (h : s.TagMapAgrees) :
    t.TagMapAgrees := by
  rw [State.tagMapAgrees_iff] at h ⊢
  obtain ⟨hmem, hnodup⟩ := h
  refine ⟨fun x i => ?_, hm ▸ hnodup.sublist (List.filter_sublist.map _)⟩
  rw [hm, List.mem_filter, hmem, and_assoc, ← Slot.tag?_isSome]
  refine and_congr_right fun _ => ?_
  rcases hs i with hfree | hkept
  · have hnone : t.slots[i].tag? = none := by rw [Slot.tag?, hfree]; rfl
    rw [hnone]
    exact ⟨fun hx => absurd hx.2 Bool.false_ne_true, fun hx => absurd hx (Option.some_ne_none x).symm⟩
  · rw [hkept]
    exact ⟨fun hx => hx.1, fun hx => ⟨hx, by rw [hx]; rfl⟩⟩

/-- A map in agreement has no entry of a FREE slot to lose. -/
theorem State.tagMap_filter_of_agrees {s : State} (h : s.TagMapAgrees) {p : BitVec 16 × SlotId → Bool}
    (hp : ∀ e, s.slots[e.2].record.isSome → p e) : s.tagMap.filter p = s.tagMap := by
  rw [List.filter_eq_self]
  rintro ⟨x, i⟩ hx
  obtain ⟨-, r, hr, -⟩ := (h.1 x i).mp hx
  exact hp _ (Option.isSome_iff_exists.mpr ⟨r, hr⟩)

/-- A tag is looked up to no slot exactly where no entry has it. -/
theorem lookupTag_eq_none {x : BitVec 16} {m : List (BitVec 16 × SlotId)} :
    lookupTag x m = none ↔ x ∉ m.map (·.1) := by
  simp only [lookupTag, Option.map_eq_none_iff, List.find?_eq_none, decide_eq_true_eq, List.mem_map, not_exists, not_and]

/-- With each tag once in the map, the slot of an entry is the one its tag is looked up to. -/
theorem lookupTag_of_mem {x : BitVec 16} {i : SlotId} {m : List (BitVec 16 × SlotId)}
    (hn : (m.map (·.1)).Nodup) (h : (x, i) ∈ m) : lookupTag x m = some i := by
  induction m with
  | nil => simp at h
  | cons e m ih =>
    rw [List.map_cons, List.nodup_cons] at hn
    by_cases he : e.1 = x
    · have hnot : (x, i) ∉ m := fun hm => hn.1 (he ▸ List.mem_map_of_mem (f := (·.1)) hm)
      obtain rfl : (x, i) = e := (List.mem_cons.mp h).resolve_right hnot
      simp [lookupTag]
    · have hm : (x, i) ∈ m := (List.mem_cons.mp h).resolve_left fun hx => he (by rw [← hx])
      simpa [lookupTag, List.find?_cons, he] using ih hn.2 hm

/-! ## What an event at a slot does to the slots and the map -/

@[simp] theorem State.applyEffect_slots (i : SlotId) (e : SlotEffect) (s : State) :
    (s.applyEffect i e).slots = s.slots.set i e.slot := by
  simp [State.applyEffect]

theorem State.applyEffect_tagMap (i : SlotId) (e : SlotEffect) (s : State) :
    (s.applyEffect i e).tagMap = if e.slot.record.isNone then unmapSlot i s.tagMap else s.tagMap := by
  simp [State.applyEffect, State.noteEffect_tagMap]

theorem slots_set_get (v : Vector Slot 64) (i j : SlotId) (sl : Slot) :
    (v.set i sl)[j] = if i = j then sl else v[j] := by
  simp only [Fin.getElem_fin, Vector.getElem_set, Fin.ext_iff]

/-- An event at one slot that frees it or keeps its tag keeps the agreement. -/
theorem State.tagMapAgrees_applyEffect {i : SlotId} {e : SlotEffect} {s : State} (h : s.TagMapAgrees)
    (he : e.keepsTag s.slots[i]) : (s.applyEffect i e).TagMapAgrees := by
  have hslots : ∀ j : SlotId, (s.applyEffect i e).slots[j] = if i = j then e.slot else s.slots[j] := fun j => by
    rw [State.applyEffect_slots, slots_set_get]
  refine State.tagMapAgrees_of_freed ?_ (fun j => ?_) h
  · rw [State.applyEffect_tagMap]
    split
    case isTrue hfree =>
      rw [unmapSlot, ← State.tagMap_filter_of_agrees h (p := fun e => s.slots[e.2].record.isSome) fun _ => id]
      rw [List.filter_filter, List.filter_filter]
      refine List.filter_congr fun x _ => ?_
      rw [hslots]
      by_cases hx : i = x.2
      · rw [if_pos hx, Option.isNone_iff_eq_none.mp hfree]
        simp [hx]
      · simp [hx, Ne.symm hx]
    case isFalse hkept =>
      refine (State.tagMap_filter_of_agrees h fun x hx => ?_).symm
      rw [hslots]
      split <;> simp_all [Option.isSome_iff_ne_none]
  · rw [hslots]
    split
    · subst_vars; exact he
    · exact .inr rfl

@[simp] theorem State.latchTable_slots (m : LineId) (s : State) :
    (s.latchTable m).slots = mapTable (fun _ sl => (latchSlot m sl).slot) s.slots :=
  State.foldEffects_frame State.slots (by simp) _ _ _

theorem State.latchTable_tagMap (m : LineId) (s : State) :
    (s.latchTable m).tagMap = s.tagMap.filter fun e => (latchSlot m s.slots[e.2]).slot.record.isSome := by
  unfold State.latchTable
  rw [State.foldEffects_tagMap]
  refine List.filter_congr fun e _ => ?_
  simp only [indices, List.mem_finRange, true_imp_iff, Bool.decide_eq_true]

end Sys2Proof.Machine

namespace Sys2Proof.Machine

/-! ## What the requests of the table do, each said once -/

/-- The record that a read of the body leaves, with the amendment written where the body can be read (R36). -/
def Record.amendedAtOnce (r : Record) (a : Amendment) : Record :=
  if r.readBody.quarantined then r.readBody.record
  else { r.readBody.record with body := r.readBody.record.body.write a }

/-- The amendment as it is held beside a live body: merged into the one that its read leaves, else alone (R37, R171). -/
def Record.heldChange (r : Record) (a : Amendment) : Amendment :=
  match r.readStaged.record.staged with
  | some old => a.mergeInto old.change
  | none => a

/-- The record with the amendment held beside its body (R37). -/
def Record.amendedLater (r : Record) (a : Amendment) : Record :=
  { r.readStaged.record with staged := some { change := r.heldChange a, check := .clean } }

theorem amendStaged_state (h : Handle) (r : Record) (a : Amendment) (st : Status) (s : State) :
    (amendStaged h r a st s).1 =
      (s.applyEffect h.slot
        (ReadResult.effect h.generation { r.readBody with record := r.amendedAtOnce a })).driveAlert := by
  unfold amendStaged Record.amendedAtOnce
  dsimp only
  split <;> rfl

theorem amendLive_eq (h : Handle) (r : Record) (a : Amendment) (st : Status) (s : State) :
    amendLive h r a st s =
      ((s.applyEffect h.slot
          (ReadResult.effect h.generation { r.readStaged with record := r.amendedLater a })).driveAlert,
        { status := st, body := .amended h .held }) := rfl

/-- AMEND_WINDOW changes nothing, or amends the STAGED record its handle names at once, or holds the amendment beside a live
one (R33, R36, R37). -/
theorem amendWindow_cases (iss : Issuer) (f : AmendFields) (s : State) :
    (amendWindow iss f s).1 = s ∨
      ∃ h r a, s.recordOf h = some r ∧ checkAmend r.target f = some a ∧ r.life ≠ .quarantined ∧
        (r.life = .staged ∧
            (amendWindow iss f s).1 =
              (s.applyEffect h.slot (ReadResult.effect h.generation
                { r.readBody with record := r.amendedAtOnce (a.clamped (s.flowLimit r.target)) })).driveAlert ∨
          r.life ≠ .staged ∧
            (amendWindow iss f s).1 =
              (s.applyEffect h.slot (ReadResult.effect h.generation
                { r.readStaged with record := r.amendedLater (a.clamped (s.flowLimit r.target)) })).driveAlert) := by
  unfold amendWindow
  split
  case h_1 => exact .inl rfl
  case h_2 h _ =>
    split
    case h_1 => exact .inl rfl
    case h_2 r hr =>
      iterate 2 (split; exact .inl rfl)
      split
      case isTrue => exact .inl rfl
      case isFalse hq =>
        split
        case isTrue => exact .inl rfl
        case isFalse =>
          split
          case h_1 => exact .inl rfl
          case h_2 a ha =>
            refine .inr ⟨h, r, a, hr, ha, hq, ?_⟩
            dsimp only
            split
            case isTrue hst => exact .inl ⟨hst, amendStaged_state ..⟩
            case isFalse hst => exact .inr ⟨hst, congrArg Prod.fst (amendLive_eq ..)⟩

/-- RETIRE_WINDOW changes nothing, or frees the slot its handle names, or marks its record to retire (R41 to R43). -/
theorem retireWindow_cases (iss : Issuer) (raw : RawHandle) (s : State) :
    (retireWindow iss raw s).1 = s ∨
      ∃ h r, s.recordOf h = some r ∧
        ((retireWindow iss raw s).1 = s.applyEffect h.slot (quietEffect s.slots[h.slot].freed) ∨
          (retireWindow iss raw s).1 =
            s.applyEffect h.slot
              (quietEffect { s.slots[h.slot] with record := some { r with retirePending := true } })) := by
  unfold retireWindow
  split
  case h_1 => exact .inl rfl
  case h_2 h _ =>
    split
    case h_1 => exact .inl rfl
    case h_2 r hr =>
      iterate 2 (split; exact .inl rfl)
      refine .inr ⟨h, r, hr, ?_⟩
      split
      case isTrue => exact .inl rfl
      case isFalse => exact .inr rfl

/-- READ_WINDOW changes nothing, or reads the record its handle names through the check (R50, R167). -/
theorem readWindow_cases (raw : RawHandle) (s : State) :
    (readWindow raw s).1 = s ∨
      ∃ h r, s.recordOf h = some r ∧
        (readWindow raw s).1 = (s.applyEffect h.slot (ReadResult.effect h.generation r.readWhole)).driveAlert := by
  unfold readWindow
  split
  case h_1 => exact .inl rfl
  case h_2 h _ =>
    split
    case h_1 => exact .inl rfl
    case h_2 r hr =>
      split
      case isTrue => exact .inl rfl
      case isFalse =>
        refine .inr ⟨h, r, hr, ?_⟩
        dsimp only
        split <;> rfl

/-- OPEN_WINDOW changes nothing, or writes sound fields, with requested_flow clamped, into a FREE slot, under a tag that is
0 or not yet in the map (R27 to R30). -/
theorem openWindow_cases (iss : Issuer) (f : OpenFields) (s : State) :
    (openWindow iss f s).1 = s ∨
      ∃ i t b, checkOpen f = some (t, b) ∧ s.slots[i].record = none ∧ (f.tag = 0 ∨ lookupTag f.tag s.tagMap = none) ∧
        (openWindow iss f s).1 =
          s.openSlot i iss f.tag t { b with requestedFlow := b.requestedFlow.map (min (s.flowLimit t)) } := by
  unfold openWindow
  split
  case h_1 => exact .inl rfl
  case h_2 t b hb =>
    split
    case isTrue => exact .inl rfl
    case isFalse =>
      split
      case isTrue => exact .inl rfl
      case isFalse htag =>
        split
        case h_1 => exact .inl rfl
        case h_2 i hi =>
          refine .inr ⟨i, t, b, hb, ?_, ?_, rfl⟩
          · simpa using List.find?_some hi
          · simpa [not_and_or, or_iff_not_imp_left] using htag

/-- The record a handle is accepted for stands in its slot, under the handle's generation (R13). -/
theorem State.recordOf_eq_some {h : Handle} {r : Record} {s : State} :
    s.recordOf h = some r ↔ s.slots[h.slot] = { generation := h.generation, record := some r } := by
  unfold State.recordOf
  generalize s.slots[h.slot] = sl
  obtain ⟨g, x⟩ := sl
  by_cases hg : g = h.generation <;> simp [hg]

/-! ## What a checked read leaves of a record -/

@[simp] theorem Record.readBody_tag (r : Record) : r.readBody.record.tag = r.tag := by
  unfold Record.readBody; split <;> rfl

@[simp] theorem Record.readStaged_tag (r : Record) : r.readStaged.record.tag = r.tag := by
  unfold Record.readStaged; split <;> [rfl; split <;> rfl]

@[simp] theorem Record.readWhole_tag (r : Record) : r.readWhole.record.tag = r.tag := by
  unfold Record.readWhole; dsimp only; split <;> simp

@[simp] theorem Record.amendedAtOnce_tag (r : Record) (a : Amendment) : (r.amendedAtOnce a).tag = r.tag := by
  unfold Record.amendedAtOnce; split <;> simp

@[simp] theorem Record.amendedLater_tag (r : Record) (a : Amendment) : (r.amendedLater a).tag = r.tag := by
  simp [Record.amendedLater]

/-! ## A property of the table that every step keeps -/

/-- Every piece of work on the window table keeps `P`, which looks at the slots, the tag map and the flow settings alone. -/
structure KeepsTable (P : State → Prop) : Prop where
  congr : ∀ s t, t.slots = s.slots → t.tagMap = s.tagMap → t.flow.live = s.flow.live → t.flow.staged = s.flow.staged →
    P s → P t
  reset : P State.reset
  openWindow : ∀ iss f s, P s → P (openWindow iss f s).1
  amendWindow : ∀ iss f s, P s → P (amendWindow iss f s).1
  retireWindow : ∀ iss f s, P s → P (retireWindow iss f s).1
  purge : ∀ b s, P s → P (purge b s).1
  readWindow : ∀ f s, P s → P (readWindow f s).1
  setSettings : ∀ bytes s, P s → P (setSettings bytes s).1
  stop : ∀ s, P s → P s.stopNow
  edge : ∀ k s, P s → P (s.edgeWork k)
  latch : ∀ m s, P s → P (s.latchTable m)
  scrub : ∀ i s, P s → P (s.applyEffect i (scrubSlot s.slots[i]))

/-- What is kept of the table by the work on it is kept by all the work of the part. -/
theorem KeepsTable.keeps {P : State → Prop} (K : KeepsTable P) : Keeps P where
  queue i s _ _ := K.congr _ _ (by simp) (by simp) (by simp) (by simp)
  hold s _ _ := K.congr _ _ (by simp) (by simp) (by simp) (by simp)
  answer r s _ := K.congr _ _ (by simp) (by simp) (by simp) (by simp)
  openWindow iss f s _ _ := K.openWindow iss f s
  amendWindow iss f s _ _ := K.amendWindow iss f s
  retireWindow iss f s _ _ := K.retireWindow iss f s
  purge b s _ _ := K.purge b s
  readWindow f s _ _ := K.readWindow f s
  reportInflow v s _ _ := K.congr _ _ (by simp) (by simp) rfl rfl
  reportUnits l s _ _ := K.congr _ _ (by simp) (by simp) (by simp) (by simp)
  setBinding f s _ _ := by
    refine K.congr _ _ (by simp) (by simp) ?_ ?_ <;> unfold Machine.setBinding <;> split <;> rfl
  setSettings l s _ _ := K.setSettings l s
  loadRotation l s _ _ := K.congr _ _ (by simp) (by simp) (by simp) (by simp)
  setLine f s _ _ := K.congr _ _ (by simp) (by simp) (by simp) (by simp)
  ackLines l s _ _ := K.congr _ _ (by simp) (by simp) (by simp) (by simp)
  setCondition f s _ _ := K.congr _ _ (by simp) (by simp) (by simp) (by simp)
  setConditionSource f s _ _ := K.congr _ _ (by simp) (by simp) (by simp) (by simp)
  start b s _ _ := K.congr _ _ (by simp) (by simp) (by simp) (by simp)
  stop b s _ _ hs := by
    unfold Machine.stop
    split
    · exact hs
    · exact K.stop s hs
  setHostHold v b s _ _ := K.congr _ _ (by simp) (by simp) (by simp) (by simp)
  ackCauses l s _ _ := K.congr _ _ (by simp) (by simp) (by simp) (by simp)
  setAlertMask l s _ _ := K.congr _ _ (by simp) (by simp) (by simp) (by simp)
  clearTracking b s _ _ := K.congr _ _ (by simp) (by simp) (by simp) (by simp)
  frameEnd bytes ok s _ := K.congr _ _ (by simp) (by simp) (by simp) (by simp)
  timed s _ _ _ := K.congr _ _ (by simp) (by simp) (by simp) (by simp)
  lostMark s _ _ _ := K.congr _ _ (by simp) (by simp) (by simp) (by simp)
  markBefore s := K.congr _ _ (by simp) (by simp) (by simp) (by simp)
  lineBefore m x s := K.congr _ _ (by simp) (by simp) (by simp) (by simp)
  markSample x t s _ := K.congr _ _ (by simp) (by simp) (by simp) (by simp)
  holdSample x s _ := K.congr _ _ (by simp) (by simp) (by simp) (by simp)
  edge k s _ _ hs := K.congr (s.edgeWork k) _ (by simp) (by simp) (by simp) (by simp) (K.edge k s hs)
  frameDone s _ _ := K.congr _ _ (by simp) (by simp) (by simp) (by simp)
  lineSample m x s _ := K.congr _ _ (by simp) (by simp) (by simp) (by simp)
  latch m s _ hs := by
    unfold State.takeLatch
    split
    · exact hs
    · split
      · exact K.congr (s.latchTable m) _ (by simp) (by simp) (by simp) (by simp) (K.latch m s hs)
      · exact hs
  scrubDue s _ := K.congr _ _ (by simp) (by simp) (by simp) (by simp)
  scrub s _ _ hs := by
    have hnext : P { s with scrub := s.scrub.advance } := K.congr s _ rfl rfl rfl rfl hs
    exact K.congr _ _ (by simp [State.scrubNow]) (by simp [State.scrubNow]) (by simp) (by simp)
      (K.scrub s.scrub.next _ hnext)
  free n s := K.congr s _ rfl rfl rfl rfl
  toReset s _ := K.congr State.reset _ rfl rfl rfl rfl K.reset
  fromReset s _ _ := K.congr State.reset _ rfl rfl rfl rfl K.reset
  pending l s := K.congr s _ rfl rfl rfl rfl

end Sys2Proof.Machine

namespace Sys2Proof.Machine

/-! ## O54: the tag map agrees with the slots -/

/-- A checked read's effect keeps the tag of the slot it reads. -/
theorem ReadResult.effect_keepsTag {g : BitVec 4} {x : ReadResult} {sl : Slot} {r : Record} (hr : sl.record = some r)
    (hx : x.record.tag = r.tag) : (ReadResult.effect g x).keepsTag sl :=
  .inr (by simp [ReadResult.effect, Slot.tag?, hr, hx])

theorem quietEffect_keepsTag (sl : Slot) : (quietEffect sl).keepsTag sl := .inr rfl

theorem quietEffect_freed_keepsTag (sl : Slot) : (quietEffect sl.freed).keepsTag sl := .inl rfl

theorem scrubSlot_keepsTag (sl : Slot) : (scrubSlot sl).keepsTag sl := by
  unfold scrubSlot
  split
  · exact quietEffect_keepsTag sl
  · split
    · exact quietEffect_keepsTag sl
    · exact ReadResult.effect_keepsTag ‹_› (by simp)

theorem latchSlot_keepsTag (m : LineId) (sl : Slot) : (latchSlot m sl).keepsTag sl := by
  unfold latchSlot
  split
  · exact quietEffect_keepsTag sl
  · split
    · dsimp only
      split
      · exact ReadResult.effect_keepsTag ‹_› (by simp)
      · exact ReadResult.effect_keepsTag ‹_› (by simp)
    · exact quietEffect_keepsTag sl

/-! ### What steps 4 to 9 of the edge pass leave of a record -/

/-- What the steps of the edge pass may make of a record (R83 to R91): another life and other runtime fields, lead and
runs_left bounded by those before or by the settings they are loaded from, elapsed held to its largest value. -/
def Record.runsOn (r r' : Record) : Prop :=
  ∃ life lead elapsed left seen,
    r' = { r with life := life,
                  body := { r.body with lead := lead, elapsed := elapsed, runsLeft := left, triggerSeen := seen } } ∧
      lead ≤ max r.body.lead r.body.startOffset ∧ elapsed ≤ max r.body.elapsed Config.maxElapsed ∧
      left ≤ max r.body.runsLeft r.body.repeats ∧ seen.isSome = r.body.triggerSeen.isSome

theorem Record.runsOn_of_life (r : Record) (life : Life) : r.runsOn { r with life := life } :=
  ⟨_, _, _, _, _, rfl, le_max_left .., le_max_left .., le_max_left .., rfl⟩

theorem Record.runsOn.trans {r r₁ r₂ : Record} (h₁ : r.runsOn r₁) (h₂ : r₁.runsOn r₂) : r.runsOn r₂ := by
  obtain ⟨_, _, _, _, _, rfl, hlead, helapsed, hleft, hseen⟩ := h₁
  obtain ⟨_, _, _, _, _, rfl, hlead', helapsed', hleft', hseen'⟩ := h₂
  dsimp only at hlead' helapsed' hleft' hseen'
  exact ⟨_, _, _, _, _, rfl, by omega, by omega, by omega, hseen'.trans hseen⟩

@[simp] theorem clearSeen_isSome (x : Option Bool) : (clearSeen x).isSome = x.isSome := by cases x <;> rfl

theorem stepEnd_runsOn {r r' : Record} (h : stepEnd r = some r') : r.runsOn r' := by
  have hleft : (if r.body.runsLeft = Config.unlimited then r.body.runsLeft else r.body.runsLeft - 1) ≤
      max r.body.runsLeft r.body.repeats := by split <;> omega
  unfold stepEnd at h
  dsimp only at h
  generalize (if r.body.runsLeft = Config.unlimited then r.body.runsLeft else r.body.runsLeft - 1) = left at h hleft
  split at h
  · split at h
    · cases h
      exact ⟨_, _, _, _, _, rfl, Nat.zero_le _, Nat.zero_le _, hleft, clearSeen_isSome _⟩
    · cases h
      exact ⟨_, _, _, _, _, rfl, le_max_right .., Nat.zero_le _, hleft, rfl⟩
  · split at h
    · cases h
    · cases h
      exact ⟨_, _, _, _, _, rfl, Nat.zero_le _, le_max_left .., le_max_left .., clearSeen_isSome _⟩

theorem stepStart_runsOn {v : PassView} {r r' : Record} (h : (stepStart v r).record = some r') : r.runsOn r' := by
  have hbegun (life : Life) : r.runsOn { r with life := life, body := { r.body with elapsed := 0 } } :=
    ⟨_, _, _, _, _, rfl, le_max_left .., Nat.zero_le _, le_max_left .., rfl⟩
  unfold stepStart at h
  dsimp only at h
  split at h
  · cases h; exact hbegun .active
  · split at h
    · cases h; exact hbegun .active
    · split at h
      · cases h; exact hbegun .suspended
      · exact stepEnd_runsOn h

theorem stepPending_runsOn {v : PassView} {w : Bool} {r r' : Record} (h : (stepPending v w r).record = some r') :
    r.runsOn r' := by
  have hlead : (if w = true then r.body.lead - 1 else r.body.lead) ≤ max r.body.lead r.body.startOffset := by
    split <;> omega
  unfold stepPending at h
  dsimp only at h
  generalize (if w = true then r.body.lead - 1 else r.body.lead) = lead at h hlead
  have hcounted : r.runsOn { r with life := .pending, body := { r.body with lead := lead } } :=
    ⟨_, _, _, _, _, rfl, hlead, le_max_left .., le_max_left .., rfl⟩
  split at h
  · exact hcounted.trans (stepStart_runsOn h)
  · cases h; exact hcounted

theorem stepStaged_runsOn {v : PassView} {r r' : Record} (h : (stepStaged v r).record = some r') : r.runsOn r' := by
  unfold stepStaged at h
  dsimp only at h
  split at h
  · cases h
    exact ⟨_, _, _, _, _, rfl, Nat.zero_le _, le_max_left .., le_max_right .., clearSeen_isSome _⟩
  · refine Record.runsOn.trans ?_ (stepPending_runsOn h)
    exact ⟨r.life, _, _, _, _, rfl, le_max_right .., le_max_left .., le_max_right .., rfl⟩

theorem stepArmed_runsOn {v : PassView} {r r' : Record} (h : (stepArmed v r).record = some r') : r.runsOn r' := by
  unfold stepArmed at h
  split at h
  · refine Record.runsOn.trans ?_ (stepPending_runsOn h)
    exact ⟨r.life, _, _, _, _, rfl, le_max_right .., le_max_left .., le_max_left .., clearSeen_isSome _⟩
  · cases h; exact r.runsOn_of_life r.life

theorem stepActive_runsOn {v : PassView} {r r' : Record} (h : (stepActive v r).record = some r') : r.runsOn r' := by
  have hcounted :
      r.runsOn (r.withBody { r.body with elapsed := min (r.body.elapsed + 1) Config.maxElapsed }) :=
    ⟨r.life, _, _, _, _, rfl, le_max_left .., le_trans (min_le_right ..) (le_max_right ..), le_max_left .., rfl⟩
  unfold stepActive at h
  dsimp only at h
  split at h
  · exact hcounted.trans (stepEnd_runsOn h)
  · split at h
    · cases h; exact hcounted
    · cases h; exact hcounted.trans (Record.runsOn_of_life _ _)

theorem stepSuspended_runsOn {v : PassView} {r r' : Record} (h : (stepSuspended v r).record = some r') :
    r.runsOn r' := by
  unfold stepSuspended at h
  split at h
  · exact stepEnd_runsOn h
  · split at h <;> cases h
    · exact r.runsOn_of_life .active
    · exact r.runsOn_of_life r.life

/-- Steps 4 to 9: a record that stays in its slot runs on. -/
theorem advance_runsOn {v : PassView} {r r' : Record} (h : (advance v r).record = some r') : r.runsOn r' := by
  unfold advance at h
  split at h
  · exact stepStaged_runsOn h
  · exact stepArmed_runsOn h
  · exact stepPending_runsOn h
  · exact stepActive_runsOn h
  · exact stepSuspended_runsOn h
  · cases h; exact r.runsOn_of_life r.life
  · cases h; exact r.runsOn_of_life r.life

@[simp] theorem stepAmend_tag (r : Record) : (stepAmend r).tag = r.tag := by
  unfold stepAmend; split <;> rfl

@[simp] theorem stepAmend_target (r : Record) : (stepAmend r).target = r.target := by
  unfold stepAmend; split <;> rfl

@[simp] theorem stepAmend_staged (r : Record) : (stepAmend r).staged = none := by
  unfold stepAmend; split
  · rfl
  · assumption

theorem Record.runsOn.tag_eq {r r' : Record} (h : r.runsOn r') : r'.tag = r.tag := by
  obtain ⟨_, _, _, _, _, rfl, -⟩ := h; rfl

/-! ### What the pass leaves in a slot -/

/-- The record that the pass leaves in a slot is the one there, quarantined by its read or left alone, or it has taken its
steps (R80). -/
theorem passSlot_record {v : PassView} {sl : Slot} {r' : Record} (h : (passSlot v sl).slot.record = some r') :
    ∃ r, sl.record = some r ∧
      (r' = r ∨ r' = r.readWhole.record ∧ r.readWhole.quarantined = true ∨
        (stepAmend r.readWhole.record).runsOn r') := by
  unfold passSlot at h
  split at h
  case h_1 hnone => exact absurd (hnone.symm.trans h) (Option.some_ne_none _).symm
  case h_2 r hr =>
    refine ⟨r, hr, ?_⟩
    split at h
    case isTrue => cases h
    case isFalse =>
      split at h
      case isTrue => exact .inl (Option.some.inj (h.symm.trans hr))
      case isFalse =>
        dsimp only at h
        split at h
        case isTrue hq => cases h; exact .inr (.inl ⟨rfl, hq⟩)
        case isFalse =>
          split at h
          case h_1 x hx => cases h; exact .inr (.inr (advance_runsOn hx))
          case h_2 => cases h

theorem passSlot_keepsTag (v : PassView) (sl : Slot) : (passSlot v sl).keepsTag sl := by
  cases h : (passSlot v sl).slot.record with
  | none => exact .inl h
  | some r' =>
    obtain ⟨r, hr, hcase⟩ := passSlot_record h
    have htag : r'.tag = r.tag := by
      rcases hcase with rfl | ⟨rfl, -⟩ | hrun
      · rfl
      · simp
      · simp [hrun.tag_eq]
    exact .inr (by simp [Slot.tag?, h, hr, htag])

theorem Slot.writeServed_tag? (v : Option Nat) (sl : Slot) : (sl.writeServed v).tag? = sl.tag? := by
  unfold Slot.writeServed Slot.tag?
  split <;> simp_all

/-! ### The agreement is kept -/

/-- R29: a slot written under a tag that is 0 or not yet in the map. -/
theorem State.tagMapAgrees_openSlot {i : SlotId} {iss : Issuer} {x : BitVec 16} {t : Target} {b : RecordBody} {s : State}
    (h : s.TagMapAgrees) (hfree : s.slots[i].record = none) (hx : x = 0 ∨ lookupTag x s.tagMap = none) :
    (s.openSlot i iss x t b).TagMapAgrees := by
  rw [State.tagMapAgrees_iff] at h ⊢
  obtain ⟨hmem, hnodup⟩ := h
  have htag : ∀ j : SlotId, (s.openSlot i iss x t b).slots[j].tag? = if i = j then some x else s.slots[j].tag? := by
    intro j
    rw [State.openSlot, slots_set_get]
    split <;> rfl
  have hnone : ∀ y, (y, i) ∉ s.tagMap := fun y hy => by
    have := ((hmem y i).mp hy).2
    rw [Slot.tag?, hfree] at this
    cases this
  by_cases h0 : x = 0
  · have hm : (s.openSlot i iss x t b).tagMap = s.tagMap := if_pos h0
    refine ⟨fun y j => ?_, hm ▸ hnodup⟩
    rw [hm, htag]
    split
    case isTrue hij =>
      subst hij
      exact ⟨fun hy => absurd hy (hnone y), fun hy => absurd (Option.some.inj hy.2).symm (h0 ▸ hy.1)⟩
    case isFalse => exact hmem y j
  · have hm : (s.openSlot i iss x t b).tagMap = (x, i) :: s.tagMap := if_neg h0
    have hnew := lookupTag_eq_none.mp (hx.resolve_left h0)
    refine ⟨fun y j => ?_, by rw [hm, List.map_cons, List.nodup_cons]; exact ⟨hnew, hnodup⟩⟩
    rw [hm, htag, List.mem_cons, Prod.mk.injEq]
    split
    case isTrue hij =>
      subst hij
      constructor
      · rintro (⟨rfl, -⟩ | hy)
        · exact ⟨h0, rfl⟩
        · exact absurd hy (hnone y)
      · exact fun hy => .inl ⟨(Option.some.inj hy.2).symm, rfl⟩
    case isFalse hij =>
      rw [← hmem]
      exact ⟨fun hy => hy.resolve_left fun e => hij e.2.symm, .inr⟩

theorem State.recordOf_record {h : Handle} {r : Record} {s : State} (hr : s.recordOf h = some r) :
    s.slots[h.slot].record = some r := by rw [State.recordOf_eq_some.mp hr]

theorem keepsTable_tagMapAgrees : KeepsTable State.TagMapAgrees where
  congr s t hslots hmap _ _ := State.tagMapAgrees_congr hmap fun i => by rw [hslots]
  reset := by
    refine State.tagMapAgrees_iff.mpr ⟨fun x i => ?_, List.nodup_nil⟩
    simp [State.reset, Slot.initial, Slot.tag?]
  openWindow iss f s hs := by
    rcases openWindow_cases iss f s with h | ⟨i, t, b, -, hfree, hx, h⟩ <;> rw [h]
    · exact hs
    · exact State.tagMapAgrees_openSlot hs hfree hx
  amendWindow iss f s hs := by
    rcases amendWindow_cases iss f s with h | ⟨h, r, a, hr, -, -, ⟨-, h⟩ | ⟨-, h⟩⟩ <;> rw [h]
    · exact hs
    · exact State.tagMapAgrees_applyEffect hs
        (ReadResult.effect_keepsTag (State.recordOf_record hr) (Record.amendedAtOnce_tag _ _))
    · exact State.tagMapAgrees_applyEffect hs
        (ReadResult.effect_keepsTag (State.recordOf_record hr) (Record.amendedLater_tag _ _))
  retireWindow iss x s hs := by
    rcases retireWindow_cases iss x s with h | ⟨h, r, hr, h | h⟩ <;> rw [h]
    · exact hs
    · exact State.tagMapAgrees_applyEffect hs (quietEffect_freed_keepsTag _)
    · refine State.tagMapAgrees_applyEffect hs (.inr ?_)
      rw [Slot.tag?, Slot.tag?, State.recordOf_record hr]
      rfl
  purge b s hs := by
    unfold Machine.purge
    split
    · refine State.tagMapAgrees_iff.mpr ⟨fun x i => ?_, List.nodup_nil⟩
      simp [Slot.tag?, Slot.freed]
    · exact hs
  readWindow x s hs := by
    rcases readWindow_cases x s with h | ⟨h, r, hr, h⟩ <;> rw [h]
    · exact hs
    · exact State.tagMapAgrees_applyEffect hs
        (ReadResult.effect_keepsTag (State.recordOf_record hr) (Record.readWhole_tag _))
  setSettings bytes s := State.tagMapAgrees_congr (by simp) (by simp)
  stop s := State.tagMapAgrees_congr (by simp) (by simp)
  edge k s hs := by
    have hslot (i : SlotId) : (s.edgeWork k).slots[i] =
        (passSlot (s.edgeView k) s.slots[i]).slot.writeServed (writtenFigure (s.edgeDemand k) (s.edgeRecord k) i) := by
      simp [State.walkedSlots]
    refine State.tagMapAgrees_of_freed ?_ (fun i => ?_) hs
    · rw [State.edgeWork_tagMap]
      refine List.filter_congr fun e _ => ?_
      rw [hslot, Slot.writeServed_isSome, State.walkedSlots, mapTable_get]
    · rw [hslot, Slot.writeServed_tag?, ← Option.isNone_iff_eq_none, ← Option.not_isSome, Slot.writeServed_isSome]
      rw [Option.not_isSome, Option.isNone_iff_eq_none]
      exact passSlot_keepsTag (s.edgeView k) s.slots[i]
  latch m s hs := by
    have hslot (i : SlotId) : (s.latchTable m).slots[i] = (latchSlot m s.slots[i]).slot := by
      rw [State.latchTable_slots, mapTable_get]
    refine State.tagMapAgrees_of_freed ?_ (fun i => ?_) hs
    · simp only [State.latchTable_tagMap, hslot]
    · rw [hslot]
      exact latchSlot_keepsTag m s.slots[i]
  scrub i s hs := State.tagMapAgrees_applyEffect hs (scrubSlot_keepsTag _)

/-- Settles O54: every piece of work on the table keeps the agreement. -/
theorem tagMapAgreementIsKept : Obligations.TagMapAgreementIsKept :=
  fun _ _ hs h => keepsTable_tagMapAgrees.keeps.step hs h

end Sys2Proof.Machine

namespace Sys2Proof.Machine

/-! ## O59: the records stay well formed -/

/-! ### Amendments -/

theorem checkOpt_eq_some {α β : Type} {check : α → Option β} {o : Option α} {p : Option β} :
    checkOpt check o = some p ↔ (∀ a, o = some a → ∃ b, check a = some b ∧ p = some b) ∧ (o = none → p = none) := by
  cases o with
  | none => simp [checkOpt, eq_comm]
  | some a => simp [checkOpt, eq_comm]

/-- A field that passes its check where it is carried. -/
theorem checkOpt_present {α β : Type} {check : α → Option β} {o : Option α} {p : Option β} (h : checkOpt check o = some p)
    {b : β} (hb : p = some b) : ∃ a, o = some a ∧ check a = some b := by
  cases o with
  | none => cases h; cases hb
  | some a =>
    obtain ⟨b', hcheck, hp⟩ := (checkOpt_eq_some.mp h).1 a rfl
    obtain rfl : b' = b := Option.some.inj (hp.symm.trans hb)
    exact ⟨a, rfl, hcheck⟩

theorem checkRange_eq_some {lo hi n m : Nat} : checkRange lo hi n = some m ↔ m = n ∧ lo ≤ n ∧ n ≤ hi := by
  unfold checkRange
  split
  · next h => simp [h, eq_comm]
  · next h => simp [h]

theorem checkAmendFlow_kind {t : Target} {v : BitVec 16} {n : Nat} (h : checkAmendFlow t v = some n) :
    t.kind = .passFlow := by
  cases t <;> simp_all [checkAmendFlow, Target.kind]

theorem checkAmendPause_range {t : Target} {n m : Nat} (h : checkAmendPause t n = some m) : t = .any ∧ 1 ≤ m ∧ m ≤ 12 := by
  cases t <;> simp [checkAmendPause, checkRange_eq_some] at h
  obtain ⟨rfl, h1, h2⟩ := h
  exact ⟨rfl, h1, h2⟩

theorem checkAmendUnload_range {t : Target} {n m : Nat} (h : checkAmendUnload t n = some m) :
    t.kind = .unitPause ∧ m ≤ 15 := by
  cases t <;> simp [checkAmendUnload, checkRange_eq_some, Target.kind] at h ⊢ <;> omega

/-- A value carried in `w` bits is below its limit. -/
theorem atMost_map_toNat {w : Nat} (v : Option (BitVec w)) : atMost (2 ^ w - 1) (v.map (·.toNat)) := by
  intro x hx
  obtain ⟨y, -, rfl⟩ := Option.map_eq_some_iff.mp hx
  have := y.isLt
  omega

theorem atMost_map_min {limit bound : Nat} (h : limit ≤ bound) (v : Option Nat) : atMost bound (v.map (min limit)) := by
  intro x hx
  obtain ⟨y, -, rfl⟩ := Option.map_eq_some_iff.mp hx
  omega

/-- An accepted amendment, its flow clamped to a maximum, is one that its record may hold (R12, R35, R37). -/
theorem checkAmend_fits {t : Target} {f : AmendFields} {a : Amendment} {limit : Nat} (h : checkAmend t f = some a)
    (hlimit : limit ≤ Config.maxPassFlow) : (a.clamped limit).fits t := by
  simp only [checkAmend, Option.bind_eq_bind, Option.bind_eq_some_iff] at h
  obtain ⟨cls, -, flow, hflow, guard, -, pause, hpause, unload, hunload, h⟩ := h
  split at h
  case isFalse => cases h
  case isTrue =>
    cases h
    refine ⟨fun hsome => ?_, atMost_map_min hlimit _, fun n hn => ?_, fun hsome => ?_, fun n hn => ?_,
      atMost_map_toNat _, atMost_map_toNat _, atMost_map_toNat _⟩
    · obtain ⟨v, hv⟩ := Option.isSome_iff_exists.mp hsome
      obtain ⟨w, hw, -⟩ := Option.map_eq_some_iff.mp hv
      obtain ⟨x, -, hx⟩ := checkOpt_present hflow hw
      exact checkAmendFlow_kind hx
    · obtain ⟨x, -, hx⟩ := checkOpt_present hpause hn
      exact checkAmendPause_range hx
    · obtain ⟨n, hn⟩ := Option.isSome_iff_exists.mp hsome
      obtain ⟨x, -, hx⟩ := checkOpt_present hunload hn
      exact (checkAmendUnload_range hx).1
    · obtain ⟨x, -, hx⟩ := checkOpt_present hunload hn
      exact (checkAmendUnload_range hx).2

theorem atMost_or {limit : Nat} {v w : Option Nat} (hv : atMost limit v) (hw : atMost limit w) :
    atMost limit (v.or w) := by
  cases v with
  | none => exact hw
  | some n => exact hv

theorem getD_le {limit n : Nat} {v : Option Nat} (hv : atMost limit v) (hn : n ≤ limit) : v.getD n ≤ limit := by
  cases v with
  | none => exact hn
  | some m => exact hv m rfl

/-- Of two amendments that a record may hold, the merged one is such an amendment (R37). -/
theorem Amendment.fits_mergeInto {t : Target} {new old : Amendment} (hn : new.fits t) (ho : old.fits t) :
    (new.mergeInto old).fits t := by
  obtain ⟨hflow, hflowMax, hpause, hunload, hunloadMax, hlength, hrepeats, hoffset⟩ := hn
  obtain ⟨hflow', hflowMax', hpause', hunload', hunloadMax', hlength', hrepeats', hoffset'⟩ := ho
  refine ⟨fun h => ?_, atMost_or hflowMax hflowMax', fun n h => ?_, fun h => ?_, atMost_or hunloadMax hunloadMax',
    atMost_or hlength hlength', atMost_or hrepeats hrepeats', atMost_or hoffset hoffset'⟩
  · rcases (Bool.or_eq_true_iff.mp (Option.isSome_or.symm.trans h)) with h | h
    exacts [hflow h, hflow' h]
  · rcases Option.or_eq_some_iff.mp h with h | ⟨-, h⟩
    exacts [hpause n h, hpause' n h]
  · rcases (Bool.or_eq_true_iff.mp (Option.isSome_or.symm.trans h)) with h | h
    exacts [hunload h, hunload' h]

theorem fieldFits_or {p : Prop} {limit : Nat} {v w : Option Nat} (hv : v.isSome = true → p) (hmax : atMost limit v)
    (hw : fieldFits p limit w) : fieldFits p limit (v.or w) := by
  refine ⟨⟨fun h => ?_, fun h => ?_⟩, atMost_or hmax hw.2⟩
  · rcases (Bool.or_eq_true_iff.mp (Option.isSome_or.symm.trans h)) with h | h
    exacts [hv h, hw.1.mp h]
  · rw [Option.isSome_or, hw.1.mpr h, Bool.or_true]

/-- The body with an amendment that its record may hold written into it (R36, R82). -/
theorem RecordBody.fits_write {t : Target} {a : Amendment} {b : RecordBody} (ha : a.fits t) (hb : b.fits t) :
    (b.write a).fits t := by
  obtain ⟨hflow, hflowMax, hpause, hunload, hunloadMax, hlength, hrepeats, hoffset⟩ := ha
  obtain ⟨bflow, bserved, bunload, bpause, bcount, bline, bseen, boffset, blength, brepeats, blead, bruns, belapsed⟩ := hb
  refine ⟨fieldFits_or hflow hflowMax bflow, bserved, fieldFits_or hunload hunloadMax bunload,
    fieldFits_or (fun h => ?_) (fun n h => (hpause n h).2.2) bpause, fun n h => ?_, bline, bseen,
    getD_le hoffset boffset, getD_le hlength blength, getD_le hrepeats brepeats, blead, bruns, belapsed⟩
  · obtain ⟨n, hn⟩ := Option.isSome_iff_exists.mp h
    rw [(hpause n hn).1]
    rfl
  · rcases Option.or_eq_some_iff.mp h with h | ⟨-, h⟩
    · obtain ⟨rfl, hlow, -⟩ := hpause n h
      exact ⟨hlow, fun hne => absurd rfl hne⟩
    · exact bcount n h

/-! ### Reads and events -/

theorem Record.fits_unstaged {r : Record} (hb : r.body.fits r.target) (hs : r.staged = none) : r.fits :=
  ⟨hb, fun a ha => absurd (hs.symm.trans ha) (Option.some_ne_none a).symm⟩

theorem Record.fits_readBody {r : Record} (h : r.fits) : r.readBody.record.fits := by
  unfold Record.readBody
  split
  · exact h
  · exact h
  · exact Record.fits_unstaged h.1 rfl

theorem Record.fits_readStaged {r : Record} (h : r.fits) : r.readStaged.record.fits := by
  unfold Record.readStaged
  split
  · exact h
  · next a ha =>
    split
    · exact h
    · exact ⟨h.1, fun _ hx => by cases hx; exact h.2 a ha⟩
    · exact Record.fits_unstaged h.1 rfl

theorem Record.fits_readWhole {r : Record} (h : r.fits) : r.readWhole.record.fits := by
  unfold Record.readWhole
  dsimp only
  split
  · exact Record.fits_readBody h
  · exact Record.fits_readStaged (Record.fits_readBody h)

@[simp] theorem Record.readBody_target (r : Record) : r.readBody.record.target = r.target := by
  unfold Record.readBody; split <;> rfl

@[simp] theorem Record.readStaged_target (r : Record) : r.readStaged.record.target = r.target := by
  unfold Record.readStaged; split <;> [rfl; split <;> rfl]

@[simp] theorem Record.readStaged_life (r : Record) : r.readStaged.record.life = r.life := by
  unfold Record.readStaged; split <;> [rfl; split <;> rfl]

theorem Record.fits_amendedAtOnce {r : Record} {a : Amendment} (h : r.fits) (ha : a.fits r.target) :
    (r.amendedAtOnce a).fits := by
  have hread := Record.fits_readBody h
  unfold Record.amendedAtOnce
  split
  · exact hread
  · exact ⟨RecordBody.fits_write (by simpa using ha) hread.1, hread.2⟩

theorem Record.fits_amendedLater {r : Record} {a : Amendment} (h : r.fits) (ha : a.fits r.target)
    (hlife : r.life.mayStage = true) : (r.amendedLater a).fits := by
  have hread := Record.fits_readStaged h
  refine ⟨hread.1, fun x hx => ?_⟩
  cases hx
  refine ⟨by simpa [Record.amendedLater] using hlife, ?_⟩
  have htarget : (r.amendedLater a).target = r.target := by simp [Record.amendedLater]
  rw [htarget]
  show (r.heldChange a).fits r.target
  unfold Record.heldChange
  split
  · next old hold => exact Amendment.fits_mergeInto ha (by simpa using (hread.2 old hold).2)
  · exact ha

theorem RecordBody.fits_latch {t : Target} {m : LineId} {b : RecordBody} (h : b.fits t) : (b.latch m).fits t := by
  unfold RecordBody.latch
  split
  · obtain ⟨bflow, bserved, bunload, bpause, bcount, bline, bseen, hrest⟩ := h
    exact ⟨bflow, bserved, bunload, bpause, bcount, bline, by simpa using bseen, hrest⟩
  · exact h

/-- The record a slot holds is well formed. -/
def Slot.fits (sl : Slot) : Prop := ∀ r, sl.record = some r → r.fits

theorem Slot.fits_of_free {sl : Slot} (h : sl.record = none) : sl.fits :=
  fun r hr => absurd (h.symm.trans hr) (Option.some_ne_none r).symm

theorem Slot.fits_of_record {sl : Slot} {r : Record} (h : sl.record = some r) (hr : r.fits) : sl.fits :=
  fun _ hx => Option.some.inj (h.symm.trans hx) ▸ hr

theorem scrubSlot_fits {sl : Slot} (h : sl.fits) : (scrubSlot sl).slot.fits := by
  unfold scrubSlot
  split
  · exact h
  · next r hr =>
    split
    · exact h
    · exact Slot.fits_of_record rfl (Record.fits_readWhole (h r hr))

theorem latchSlot_fits {m : LineId} {sl : Slot} (h : sl.fits) : (latchSlot m sl).slot.fits := by
  unfold latchSlot
  split
  · exact h
  · next r hr =>
    have hread := Record.fits_readBody (h r hr)
    split
    · dsimp only
      split
      · exact Slot.fits_of_record rfl hread
      · exact Slot.fits_of_record rfl ⟨RecordBody.fits_latch hread.1, hread.2⟩
    · exact h

/-! ### The edge pass -/

theorem Record.fits_stepAmend {r : Record} (h : r.fits) : (stepAmend r).fits := by
  refine Record.fits_unstaged ?_ (stepAmend_staged r)
  rw [stepAmend_target]
  unfold stepAmend
  split
  · next a ha =>
    have hfits := (h.2 a ha).2
    have ⟨_, _, _, _, _, _, hrepeats, hoffset⟩ := hfits
    obtain ⟨bflow, bserved, bunload, bpause, bcount, bline, bseen, boffset, blength, brepeats, blead, bruns, belapsed⟩ :=
      RecordBody.fits_write hfits h.1
    refine ⟨bflow, bserved, bunload, bpause, bcount, bline, bseen, boffset, blength, brepeats, getD_le hoffset blead, ?_,
      belapsed⟩
    show (if r.life = .ended then (r.body.write a.change).runsLeft
      else a.change.repeats.getD (r.body.write a.change).runsLeft) ≤ 255
    split
    · exact bruns
    · exact getD_le hrepeats bruns
  · exact h.1

theorem Record.fits_of_runsOn {r r' : Record} (hb : r.body.fits r.target) (hs : r.staged = none) (h : r.runsOn r') :
    r'.fits := by
  obtain ⟨life, lead, elapsed, left, seen, rfl, hlead, helapsed, hleft, hseen⟩ := h
  obtain ⟨bflow, bserved, bunload, bpause, bcount, bline, bseen, boffset, blength, brepeats, blead, bruns, belapsed⟩ := hb
  refine Record.fits_unstaged ⟨bflow, bserved, bunload, bpause, bcount, bline, ?_, boffset, blength, brepeats, ?_, ?_, ?_⟩ hs
  · show seen.isSome = true ↔ _
    rw [hseen]
    exact bseen
  all_goals dsimp only; omega

theorem passSlot_fits {v : PassView} {sl : Slot} (h : sl.fits) : (passSlot v sl).slot.fits := by
  intro r' hr'
  obtain ⟨r, hr, hcase⟩ := passSlot_record hr'
  rcases hcase with rfl | ⟨rfl, -⟩ | hrun
  · exact h _ hr
  · exact Record.fits_readWhole (h r hr)
  · exact Record.fits_of_runsOn (Record.fits_stepAmend (Record.fits_readWhole (h r hr))).1 (stepAmend_staged _) hrun

/-! ### The write-back -/

theorem grant_le (w total c : Nat) : grant w total c ≤ c := by
  unfold grant
  split
  · exact le_rfl
  · next h =>
    refine Nat.div_le_of_le_mul ?_
    rw [Nat.mul_comm total]
    exact Nat.mul_le_mul_left c (by omega)

theorem passShare_c0_le (d : DemandSet) (a : Apportioner) (p : PassId) : (passShare d a p).c0 ≤ d.requests0[p] := by
  refine le_trans (min_le_left _ _) ?_
  split
  · exact le_rfl
  · exact Nat.zero_le _

theorem passShare_c1_le (d : DemandSet) (a : Apportioner) (p : PassId) : (passShare d a p).c1 ≤ d.requests1[p] := by
  refine le_trans (min_le_left _ _) ?_
  split
  · exact le_rfl
  · exact Nat.zero_le _

theorem computeRecord_passes (d : DemandSet) (u : UnitOrderSet) (a : Apportioner) (p : PassId) :
    (computeRecord d u a).passes[p] = passFigures d a (budgetOf a.qUsed (passShare d a)) p := by
  simp [computeRecord]

/-- A share of a flow by a grant that is at most the request (R115). -/
theorem share_le {flow granted requested : Nat} (h : granted ≤ requested) : flow * granted / requested ≤ flow := by
  refine Nat.div_le_of_le_mul ?_
  rw [Nat.mul_comm requested]
  exact Nat.mul_le_mul_left flow h

/-- R115: no served figure is above the flow it is a share of. -/
theorem servedFigure_le (d : DemandSet) (u : UnitOrderSet) (a : Apportioner) (c : Contribution) :
    servedFigure d (computeRecord d u a) c ≤ c.flow := by
  unfold servedFigure
  simp only [computeRecord_passes]
  split
  · exact share_le (le_trans (grant_le _ _ _) (passShare_c0_le ..))
  · exact share_le (le_trans (grant_le _ _ _) (passShare_c1_le ..))

/-- A figure is written for a PASS_FLOW record alone, and is no larger than a flow may be (R93, R115). -/
theorem State.writtenFigure_fits {k : EdgeKind} {i : SlotId} {n : Nat} {s : State}
    (h : writtenFigure (s.edgeDemand k) (s.edgeRecord k) i = some n) (hfit : (s.walkedSlots k)[i].fits) :
    n ≤ Config.maxPassFlow ∧ ∀ r, (s.walkedSlots k)[i].record = some r → r.target.kind = .passFlow := by
  rw [State.edgeDemand, writtenFigure_eq] at h
  split at h
  case h_1 c hc =>
    cases h
    obtain ⟨-, r, hr, -, htarget, -, -, -, hflow⟩ := contributionOf_eq.mp hc
    refine ⟨le_trans (servedFigure_le _ _ _ c) ?_, fun x hx => ?_⟩
    · obtain ⟨⟨-, hmax⟩, -⟩ := (hfit r hr).1
      rw [hflow]
      exact getD_le hmax (Nat.zero_le _)
    · rw [← Option.some.inj (hr.symm.trans hx), htarget]
      rfl
  case h_2 =>
    split at h
    case isFalse => cases h
    case isTrue hlive =>
      cases h
      obtain ⟨r, hr, hkind, -⟩ := isLiveFlow_iff.mp hlive
      exact ⟨Nat.zero_le _, fun x hx => Option.some.inj (hr.symm.trans hx) ▸ hkind⟩

theorem Slot.writeServed_fits {v : Option Nat} {sl : Slot} (h : sl.fits)
    (hv : ∀ n, v = some n → n ≤ Config.maxPassFlow ∧ ∀ r, sl.record = some r → r.target.kind = .passFlow) :
    (sl.writeServed v).fits := by
  unfold Slot.writeServed
  split
  case h_2 => exact h
  case h_1 n r hr =>
    obtain ⟨hn, hkind⟩ := hv n rfl
    obtain ⟨⟨bflow, -, hrest⟩, hstaged⟩ := h r hr
    refine Slot.fits_of_record rfl ⟨⟨bflow, ⟨⟨fun _ => hkind r hr, fun _ => rfl⟩, fun x hx => ?_⟩, hrest⟩, hstaged⟩
    exact Option.some.inj hx ▸ hn

theorem State.edgeWork_fits {k : EdgeKind} {s : State} (h : s.RecordsFit) : (s.edgeWork k).RecordsFit := by
  intro i
  have hwalk : (s.walkedSlots k)[i].fits := by
    rw [State.walkedSlots, mapTable_get]
    exact passSlot_fits (h i)
  have hslot : (s.edgeWork k).slots[i] =
      (s.walkedSlots k)[i].writeServed (writtenFigure (s.edgeDemand k) (s.edgeRecord k) i) := by
    rw [State.edgeWork_slots, mapTable_get]
  show (s.edgeWork k).slots[i].fits
  rw [hslot]
  exact Slot.writeServed_fits hwalk fun n hn => State.writtenFigure_fits hn hwalk

/-! ### OPEN_WINDOW -/

/-- What the structural check of OPEN_WINDOW asks, and the target and body it makes (R26, R29). -/
theorem checkOpen_eq_some {f : OpenFields} {t : Target} {b : RecordBody} :
    checkOpen f = some (t, b) ↔
      ∃ kind mode line pause unload flow cls guard,
        f.kind = some kind ∧ checkTarget kind f.target = some t ∧ f.startMode = some mode ∧
          checkStart mode f.triggerLine = some line ∧ checkPause t f.pauseCount = some pause ∧
          checkUnload t f.unloadCount = some unload ∧ checkFlow t f.requestedFlow = some flow ∧
          index? 8 f.cls = some cls ∧ checkOpt checkGuard f.guard = some guard ∧
          b = { cls := cls, requestedFlow := flow, pauseCount := pause, unloadCount := unload, startMode := mode,
                triggerLine := line, startOffset := f.startOffset.toNat, length := f.length.toNat,
                repeats := f.repeats.toNat, guard := guard, autoRelease := f.autoRelease, lead := 0, elapsed := 0,
                runsLeft := 0, triggerSeen := line.map fun _ => false, servedFlow := flow.map fun _ => 0 } := by
  simp only [checkOpen, Option.bind_eq_bind, Option.bind_eq_some_iff, Option.pure_def, Option.some.injEq, Prod.mk.injEq]
  constructor
  · rintro ⟨kind, hkind, target, ht, mode, hmode, line, hline, pause, hp, unload, hu, flow, hf, cls, hc, guard, hg, rfl, rfl⟩
    exact ⟨kind, mode, line, pause, unload, flow, cls, guard, hkind, ht, hmode, hline, hp, hu, hf, hc, hg, rfl⟩
  · rintro ⟨kind, mode, line, pause, unload, flow, cls, guard, hkind, ht, hmode, hline, hp, hu, hf, hc, hg, rfl⟩
    exact ⟨kind, hkind, t, ht, mode, hmode, line, hline, pause, hp, unload, hu, flow, hf, cls, hc, guard, hg, rfl, rfl⟩

theorem checkStart_isSome {m : StartMode} {v : Option Nat} {line : Option LineId} (h : checkStart m v = some line) :
    line.isSome = true ↔ m = .trigger := by
  unfold checkStart at h
  split at h
  · cases h; simp
  · obtain ⟨i, -, rfl⟩ := Option.map_eq_some_iff.mp h
    simp
  · cases h

theorem checkFlow_isSome {t : Target} {v : Option (BitVec 16)} {flow : Option Nat} (h : checkFlow t v = some flow) :
    flow.isSome = true ↔ t.kind = .passFlow := by
  unfold checkFlow at h
  split at h
  · cases h; simp [Target.kind]
  · cases h
  · cases h
    cases t <;> simp_all [Target.kind]
  · cases h

theorem checkPause_fits {t : Target} {v pause : Option Nat} (h : checkPause t v = some pause) :
    fieldFits (t.kind = .unitPause) 12 pause ∧ ∀ n, pause = some n → 1 ≤ n ∧ (t ≠ .any → n = 1) := by
  unfold checkPause at h
  split at h
  case h_1 =>
    cases h
    simp [fieldFits, atMost, Target.kind]
  case h_2 n =>
    obtain ⟨m, hm, rfl⟩ := Option.map_eq_some_iff.mp h
    obtain ⟨rfl, hlow, hhigh⟩ := checkRange_eq_some.mp hm
    simp [fieldFits, atMost, Target.kind, hlow, hhigh]
  case h_3 =>
    cases h
    simp [fieldFits, atMost, Target.kind]
  case h_4 =>
    split at h <;> cases h
    simp [fieldFits, atMost, Target.kind]
  case h_5 => cases h

theorem checkUnload_fits {t : Target} {v unload : Option Nat} (h : checkUnload t v = some unload) :
    fieldFits (t.kind = .unitPause) 15 unload := by
  have hrange {n : Nat} (h : (checkRange 0 15 n).map some = some unload) : unload.isSome ∧ atMost 15 unload := by
    obtain ⟨m, hm, rfl⟩ := Option.map_eq_some_iff.mp h
    obtain ⟨rfl, -, hhigh⟩ := checkRange_eq_some.mp hm
    exact ⟨rfl, fun x hx => Option.some.inj hx ▸ hhigh⟩
  unfold checkUnload at h
  split at h
  · cases h; simp [fieldFits, atMost, Target.kind]
  · exact ⟨by simp [hrange h, Target.kind], (hrange h).2⟩
  · exact ⟨by simp [hrange h, Target.kind], (hrange h).2⟩
  · cases h

/-- The body of a new record, its flow clamped to a maximum, is well formed (R29, R30). -/
theorem checkOpen_fits {f : OpenFields} {t : Target} {b : RecordBody} {limit : Nat} (h : checkOpen f = some (t, b))
    (hlimit : limit ≤ Config.maxPassFlow) :
    RecordBody.fits t { b with requestedFlow := b.requestedFlow.map (min limit) } := by
  obtain ⟨kind, mode, line, pause, unload, flow, cls, guard, -, -, -, hline, hpause, hunload, hflow, -, -, rfl⟩ :=
    checkOpen_eq_some.mp h
  obtain ⟨hpause, hcount⟩ := checkPause_fits hpause
  have hoffset := f.startOffset.isLt
  have hlength := f.length.isLt
  have hrepeats := f.repeats.isLt
  refine ⟨⟨by simpa using checkFlow_isSome hflow, atMost_map_min hlimit _⟩,
    ⟨by simpa using checkFlow_isSome hflow, fun x hx => ?_⟩, checkUnload_fits hunload, hpause, hcount,
    checkStart_isSome hline, by simpa using checkStart_isSome hline, ?_, ?_, ?_, ?_, ?_, ?_⟩
  · obtain ⟨_, -, rfl⟩ := Option.map_eq_some_iff.mp hx
    exact Nat.zero_le _
  all_goals dsimp only; omega

/-! ### The maxima of the passes -/

/-- R101: the live and the staged maximum of every pass is at most the largest flow of a pass. -/
def Apportioner.CapsFit (a : Apportioner) : Prop :=
  ∀ p : PassId, a.live.passes[p].max ≤ Config.maxPassFlow ∧ atMost Config.maxPassFlow a.staged.passes[p].max

theorem Apportioner.capsFit_congr {a b : Apportioner} (hlive : b.live = a.live) (hstaged : b.staged = a.staged)
    (h : a.CapsFit) : b.CapsFit := by
  unfold Apportioner.CapsFit
  rw [hlive, hstaged]
  exact h

theorem State.capsFit_of_settingsInRange {s : State} (h : s.SettingsInRange) : s.flow.CapsFit := by
  obtain ⟨⟨-, -, -, hlive, -⟩, ⟨-, -, -, hstaged, -⟩, -⟩ := h
  exact fun p => ⟨(hlive p).1, (hstaged p).1⟩

theorem State.flowLimit_le {s : State} (h : s.flow.CapsFit) (t : Target) : s.flowLimit t ≤ Config.maxPassFlow := by
  unfold State.flowLimit
  split
  · exact (h _).1
  · exact Nat.zero_le _

theorem checkItems_inRange {raw : List (Nat × Nat × Nat)} {items : List (Setting × Nat)}
    (h : checkItems raw = some items) : ∀ e ∈ items, settingInRange e.1 e.2 = true := by
  induction raw generalizing items with
  | nil => cases h; simp
  | cons x rest ih =>
    unfold checkItems at h
    split at h
    · split at h
      · obtain ⟨tail, htail, rfl⟩ := Option.map_eq_some_iff.mp h
        exact List.forall_mem_cons.mpr ⟨‹_›, ih htail⟩
      · cases h
    · cases h

/-- A value that an accepted SET_SETTINGS names is in its setting's range (R187). -/
theorem itemValue_inRange {bytes : List Byte} {items : List (Setting × Nat)} {st : Setting} {v : Nat}
    (h : checkSettings bytes = some items) (hv : itemValue st items = some v) : settingInRange st v = true := by
  obtain ⟨⟨st', v'⟩, hfind, rfl⟩ := Option.map_eq_some_iff.mp hv
  obtain rfl : st' = st := by simpa using List.find?_some hfind
  unfold checkSettings at h
  split at h
  · cases h
  · split at h
    · split at h
      · split at h
        · cases h
          exact checkItems_inRange ‹_› _ (List.mem_of_find?_eq_some hfind)
        · cases h
      · cases h
    · cases h

@[simp] theorem Apportioner.writeSettings_max (st : StagedSettings) (a : Apportioner) (p : PassId) :
    (a.writeSettings st).live.passes[p].max = st.passes[p].max.getD a.live.passes[p].max := by
  simp only [Apportioner.writeSettings, FlowSettings.write, Fin.getElem_fin, mapTable_getElem]
  split <;> rfl

@[simp] theorem Apportioner.writeSettings_staged (st : StagedSettings) (a : Apportioner) :
    (a.writeSettings st).staged = a.staged := rfl

@[simp] theorem stagedSettings_none_max (p : PassId) : StagedSettings.none.passes[p].max = none := by
  simp [StagedSettings.none]

@[simp] theorem stageItems_max (live : FlowSettings) (items : List (Setting × Nat)) (st : StagedSettings) (p : PassId) :
    (stageItems live items st).passes[p].max = (itemValue (.passMax p) items).or st.passes[p].max := by
  simp [stageItems]

theorem atMost_none (limit : Nat) : atMost limit none := nofun

theorem Apportioner.capsFit_writeSettings {a : Apportioner} {st : StagedSettings} (h : a.CapsFit)
    (hst : ∀ p : PassId, atMost Config.maxPassFlow st.passes[p].max) : (a.writeSettings st).CapsFit := fun p => by
  rw [Apportioner.writeSettings_max, Apportioner.writeSettings_staged]
  exact ⟨getD_le (hst p) (h p).1, (h p).2⟩

theorem Apportioner.capsFit_applyStaged {a : Apportioner} (h : a.CapsFit) : a.applyStaged.CapsFit := fun p => by
  refine ⟨?_, ?_⟩
  · show (a.writeSettings a.staged).live.passes[p].max ≤ _
    rw [Apportioner.writeSettings_max]
    exact getD_le (h p).2 (h p).1
  · show atMost _ StagedSettings.none.passes[p].max
    rw [stagedSettings_none_max]
    exact atMost_none _

theorem capsFit_setSettings (bytes : List Byte) {s : State} (h : s.flow.CapsFit) : (setSettings bytes s).1.flow.CapsFit := by
  unfold setSettings
  split
  case h_1 => exact h
  case h_2 items hitems =>
    have hcap (st : StagedSettings) (hst : ∀ p : PassId, atMost Config.maxPassFlow st.passes[p].max) (p : PassId) :
        atMost Config.maxPassFlow (stageItems s.flow.live items st).passes[p].max := by
      rw [stageItems_max]
      refine atMost_or (fun v hv => ?_) (hst p)
      simpa [settingInRange] using itemValue_inRange hitems hv
    split
    case isTrue => exact h
    case isFalse =>
      show (State.setFlowItems items _).flow.CapsFit
      unfold State.setFlowItems
      split
      · show ((State.setScrubberItem items _).flow.writeSettings
          (stageItems (State.setScrubberItem items _).flow.live _ _)).CapsFit
        simp only [State.setScrubberItem_frame]
        exact Apportioner.capsFit_writeSettings h (hcap _ fun p => by rw [stagedSettings_none_max]; exact atMost_none _)
      · show Apportioner.CapsFit { (State.setScrubberItem items _).flow with
          staged := stageItems (State.setScrubberItem items _).flow.live items (State.setScrubberItem items _).flow.staged }
        simp only [State.setScrubberItem_frame]
        exact fun p => ⟨(h p).1, hcap _ (fun p => (h p).2) p⟩

/-! ### Well-formed records are kept -/

/-- What makes every step keep the records well formed: they are, and so are the maxima their flows are clamped to. -/
def State.TableFits (s : State) : Prop := s.flow.CapsFit ∧ s.RecordsFit

theorem State.tableFits_congr {s t : State} (hslots : t.slots = s.slots) (hlive : t.flow.live = s.flow.live)
    (hstaged : t.flow.staged = s.flow.staged) (h : s.TableFits) : t.TableFits := by
  refine ⟨Apportioner.capsFit_congr hlive hstaged h.1, fun i => ?_⟩
  show t.slots[i].fits
  rw [hslots]
  exact h.2 i

theorem State.tableFits_set {s t : State} {i : SlotId} {sl : Slot} (hslots : t.slots = s.slots.set i sl)
    (hflow : t.flow = s.flow) (h : s.TableFits) (hsl : sl.fits) : t.TableFits := by
  refine ⟨hflow ▸ h.1, fun j => ?_⟩
  show t.slots[j].fits
  rw [hslots, slots_set_get]
  split
  · exact hsl
  · exact h.2 j

theorem State.fits_of_recordOf {h : Handle} {r : Record} {s : State} (hs : s.TableFits) (hr : s.recordOf h = some r) :
    r.fits := hs.2 h.slot r (State.recordOf_record hr)

theorem keepsTable_tableFits : KeepsTable State.TableFits where
  congr s t hslots _ hlive hstaged := State.tableFits_congr hslots hlive hstaged
  reset := by
    refine ⟨fun p => ?_, fun i => Slot.fits_of_free ?_⟩
    · have hp : State.reset.flow.live.passes[p].max = 0 ∧ State.reset.flow.staged.passes[p].max = none := by
        revert p; decide
      rw [hp.1, hp.2]
      exact ⟨Nat.zero_le _, atMost_none _⟩
    · simp [State.reset, Slot.initial]
  openWindow iss f s hs := by
    rcases openWindow_cases iss f s with h | ⟨i, t, b, hb, -, -, h⟩ <;> rw [h]
    · exact hs
    · refine State.tableFits_set rfl rfl hs (Slot.fits_of_record rfl (Record.fits_unstaged ?_ rfl))
      exact checkOpen_fits hb (State.flowLimit_le hs.1 t)
  amendWindow iss f s hs := by
    rcases amendWindow_cases iss f s with h | ⟨h, r, a, hr, ha, hq, h | h⟩
    · rw [h]; exact hs
    all_goals
      obtain ⟨hlife, heq⟩ := h
      have hfits := State.fits_of_recordOf hs hr
      have hchange := checkAmend_fits ha (State.flowLimit_le hs.1 r.target)
      rw [heq]
      refine State.tableFits_set (by rw [State.driveAlert_slots, State.applyEffect_slots]) (by simp) hs
        (Slot.fits_of_record rfl ?_)
    · exact Record.fits_amendedAtOnce hfits hchange
    · refine Record.fits_amendedLater hfits hchange ?_
      cases hl : r.life <;> simp_all [Life.mayStage]
  retireWindow iss x s hs := by
    rcases retireWindow_cases iss x s with h | ⟨h, r, hr, h | h⟩ <;> rw [h]
    · exact hs
    · exact State.tableFits_set (State.applyEffect_slots ..) (by simp) hs (Slot.fits_of_free rfl)
    · exact State.tableFits_set (State.applyEffect_slots ..) (by simp) hs
        (Slot.fits_of_record rfl ⟨(State.fits_of_recordOf hs hr).1, (State.fits_of_recordOf hs hr).2⟩)
  purge b s hs := by
    unfold Machine.purge
    split
    · refine ⟨hs.1, fun i => Slot.fits_of_free ?_⟩
      simp [Slot.freed]
    · exact hs
  readWindow x s hs := by
    rcases readWindow_cases x s with h | ⟨h, r, hr, h⟩ <;> rw [h]
    · exact hs
    · exact State.tableFits_set (by rw [State.driveAlert_slots, State.applyEffect_slots]) (by simp) hs
        (Slot.fits_of_record rfl (Record.fits_readWhole (State.fits_of_recordOf hs hr)))
  setSettings bytes s hs := by
    refine ⟨capsFit_setSettings bytes hs.1, fun i => ?_⟩
    have hslots : (Machine.setSettings bytes s).1.slots = s.slots := by simp
    show (Machine.setSettings bytes s).1.slots[i].fits
    rw [hslots]
    exact hs.2 i
  stop s hs := ⟨Apportioner.capsFit_congr rfl rfl (Apportioner.capsFit_applyStaged hs.1), hs.2⟩
  edge k s hs := by
    refine ⟨?_, State.edgeWork_fits hs.2⟩
    rw [State.edgeWork_flow]
    have hgrant : s.grantedFlow.CapsFit := Apportioner.capsFit_congr (Apportioner.atGrant_live _)
      (Apportioner.atGrant_staged _) (Apportioner.capsFit_applyStaged hs.1)
    exact Apportioner.capsFit_congr (Apportioner.take_live ..) (Apportioner.take_staged ..) hgrant
  latch m s hs := by
    refine ⟨by simpa using hs.1, fun i => ?_⟩
    show (s.latchTable m).slots[i].fits
    rw [State.latchTable_slots, mapTable_get]
    exact latchSlot_fits (hs.2 i)
  scrub i s hs :=
    State.tableFits_set (State.applyEffect_slots ..) (by simp) hs (scrubSlot_fits (hs.2 i))

/-- Settles O59: the records and the maxima their flows are clamped to are kept together. -/
theorem recordsStayWellFormed : Obligations.RecordsStayWellFormed :=
  fun _ _ hrange hfit h =>
    (keepsTable_tableFits.keeps.step ⟨State.capsFit_of_settingsInRange hrange, hfit⟩ h).2

end Sys2Proof.Machine

namespace Sys2Proof.Machine

/-! ## O9: the fields that OPEN_WINDOW accepts -/

/-! ### What each check accepts -/

theorem index?_isSome {n k : Nat} : (index? n k).isSome = true ↔ k < n := by
  unfold index?
  split <;> simp [*]

theorem checkOpt_isSome {α β : Type} {check : α → Option β} {o : Option α} :
    (checkOpt check o).isSome = true ↔ ∀ a, o = some a → (check a).isSome = true := by
  cases o <;> simp [checkOpt]

theorem checkRange_isSome {lo hi n : Nat} : (checkRange lo hi n).isSome = true ↔ lo ≤ n ∧ n ≤ hi := by
  unfold checkRange
  split <;> simp_all

theorem checkGuard_isSome {g : RawGuard} : (checkGuard g).isSome = true ↔ g.sound := by
  obtain ⟨c, p, m⟩ := g
  have hc : (index? 8 c).isSome = true ↔ c ≤ 7 := by rw [index?_isSome]; omega
  simp only [checkGuard, RawGuard.sound, ← hc]
  cases index? 8 c <;> cases p <;> cases m <;> simp

theorem checkGuard_raw {g : RawGuard} {g' : Guard} (h : checkGuard g = some g') : g = g'.raw := by
  obtain ⟨c, p, m⟩ := g
  unfold checkGuard at h
  split at h
  · next hc hp hm =>
    cases h
    simp only at hc hp hm
    simp [Guard.raw, index?_eq_some hc, hp, hm]
  · cases h

/-- A target passes the check exactly when it is the raw form of one of the kind. -/
theorem checkTarget_eq_some {k : Kind} {raw : RawTarget} {t : Target} :
    checkTarget k raw = some t ↔ k = t.kind ∧ raw = t.raw := by
  constructor
  · intro h
    unfold checkTarget at h
    split at h
    · obtain ⟨p, hp, rfl⟩ := Option.map_eq_some_iff.mp h
      exact ⟨rfl, congrArg _ (index?_eq_some hp).symm⟩
    · obtain ⟨u, hu, rfl⟩ := Option.map_eq_some_iff.mp h
      exact ⟨rfl, congrArg _ (index?_eq_some hu).symm⟩
    · cases h; exact ⟨rfl, rfl⟩
    · cases h
  · rintro ⟨rfl, rfl⟩
    cases t <;> simp [checkTarget, Target.kind, Target.raw]

theorem checkStart_isSome_iff {m : StartMode} {v : Option Nat} :
    (checkStart m v).isSome = true ↔ m = .immediate ∧ v = none ∨ m = .trigger ∧ ∃ n, n ≤ 7 ∧ v = some n := by
  cases m <;> cases v <;> simp [checkStart, index?_isSome, Nat.lt_succ_iff]

theorem checkStart_line {m : StartMode} {v : Option Nat} {line : Option LineId} (h : checkStart m v = some line) :
    line.map (·.val) = v := by
  unfold checkStart at h
  split at h
  · cases h; rfl
  · obtain ⟨i, hi, rfl⟩ := Option.map_eq_some_iff.mp h
    simp [index?_eq_some hi]
  · cases h

theorem checkFlow_eq {t : Target} {v : Option (BitVec 16)} {flow : Option Nat} (h : checkFlow t v = some flow) :
    flow = v.map (·.toNat) := by
  unfold checkFlow at h
  split at h <;> cases h <;> rfl

theorem checkUnload_eq {t : Target} {v unload : Option Nat} (h : checkUnload t v = some unload) : unload = v := by
  have hrange {n : Nat} (h : (checkRange 0 15 n).map some = some unload) : unload = some n := by
    obtain ⟨m, hm, rfl⟩ := Option.map_eq_some_iff.mp h
    rw [(checkRange_eq_some.mp hm).1]
  unfold checkUnload at h
  split at h
  · cases h; rfl
  · exact hrange h
  · exact hrange h
  · cases h

/-- The pause count of the record: none for a pass, 1 for FIXED, the one given for ANY (R25). -/
theorem checkPause_eq {t : Target} {v pause : Option Nat} (h : checkPause t v = some pause) :
    (∀ p, t = .pass p → pause = none) ∧ (∀ u, t = .fixed u → pause = some 1) ∧ (t = .any → pause = v) := by
  unfold checkPause at h
  split at h
  case h_1 => cases h; simp
  case h_2 n =>
    obtain ⟨m, hm, rfl⟩ := Option.map_eq_some_iff.mp h
    simp [(checkRange_eq_some.mp hm).1]
  case h_3 => cases h; simp
  case h_4 => split at h <;> cases h; simp
  case h_5 => cases h

/-! ### The fields that a target asks for (R25, R26) -/

/-- The fields that depend on the target pass their checks. -/
def Target.takes (t : Target) (f : OpenFields) : Prop :=
  (checkPause t f.pauseCount).isSome = true ∧ (checkUnload t f.unloadCount).isSome = true ∧
    (checkFlow t f.requestedFlow).isSome = true

theorem Target.takes_pass {f : OpenFields} {p : PassId} :
    Target.takes (.pass p) f ↔ f.requestedFlow.isSome = true ∧ f.pauseCount = none ∧ f.unloadCount = none := by
  unfold Target.takes
  cases f.pauseCount <;> cases f.unloadCount <;> cases f.requestedFlow <;> simp [checkPause, checkUnload, checkFlow]

theorem Target.takes_fixed {f : OpenFields} {u : UnitId} :
    Target.takes (.fixed u) f ↔ f.requestedFlow = none ∧ (∃ n, n ≤ 15 ∧ f.unloadCount = some n) ∧
      (f.pauseCount = none ∨ f.pauseCount = some 1) := by
  have hone (n : Nat) : (if n = 1 then some (some 1) else none : Option (Option Nat)).isSome = true ↔ n = 1 := by
    split <;> simp [*]
  unfold Target.takes
  cases f.pauseCount <;> cases f.unloadCount <;> cases f.requestedFlow <;>
    simp [checkPause, checkUnload, checkFlow, checkRange_isSome, hone, and_comm]

theorem Target.takes_any {f : OpenFields} :
    Target.takes .any f ↔ f.requestedFlow = none ∧ (∃ n, n ≤ 15 ∧ f.unloadCount = some n) ∧
      ∃ n, 1 ≤ n ∧ n ≤ 12 ∧ f.pauseCount = some n := by
  unfold Target.takes
  cases f.pauseCount <;> cases f.unloadCount <;> cases f.requestedFlow <;>
    simp [checkPause, checkUnload, checkFlow, checkRange_isSome, and_comm]

/-- The structural check, one part for each field (R26). -/
theorem checkOpen_isSome {f : OpenFields} :
    (checkOpen f).isSome = true ↔
      f.cls ≤ 7 ∧ (∀ g, f.guard = some g → g.sound) ∧
        ((f.startMode = some .immediate ∧ f.triggerLine = none) ∨
          (f.startMode = some .trigger ∧ ∃ n, n ≤ 7 ∧ f.triggerLine = some n)) ∧
        ∃ t : Target, f.kind = some t.kind ∧ f.target = t.raw ∧ t.takes f := by
  have hcls : f.cls ≤ 7 ↔ (index? 8 f.cls).isSome = true := by rw [index?_isSome]; omega
  have hguard : (∀ g, f.guard = some g → g.sound) ↔ (checkOpt checkGuard f.guard).isSome = true := by
    simp only [checkOpt_isSome, checkGuard_isSome]
  rw [hcls, hguard]
  simp only [Option.isSome_iff_exists, Prod.exists, checkOpen_eq_some, checkTarget_eq_some, Target.takes]
  constructor
  · rintro ⟨t, b, kind, mode, line, pause, unload, flow, cls, guard, hkind, ⟨rfl, ht⟩, hmode, hline, hpause, hunload,
      hflow, hc, hg, -⟩
    refine ⟨⟨cls, hc⟩, ⟨guard, hg⟩, ?_, t, hkind, ht, ⟨pause, hpause⟩, ⟨unload, hunload⟩, ⟨flow, hflow⟩⟩
    have := checkStart_isSome_iff.mp (Option.isSome_iff_exists.mpr ⟨line, hline⟩)
    simpa [hmode] using this
  · rintro ⟨⟨cls, hc⟩, ⟨guard, hg⟩, hstart, t, hkind, ht, ⟨pause, hpause⟩, ⟨unload, hunload⟩, ⟨flow, hflow⟩⟩
    obtain ⟨mode, hmode, hline⟩ : ∃ mode, f.startMode = some mode ∧ (checkStart mode f.triggerLine).isSome = true := by
      rcases hstart with ⟨hm, hl⟩ | ⟨hm, hl⟩
      · exact ⟨_, hm, checkStart_isSome_iff.mpr (.inl ⟨rfl, hl⟩)⟩
      · exact ⟨_, hm, checkStart_isSome_iff.mpr (.inr ⟨rfl, hl⟩)⟩
    obtain ⟨line, hline⟩ := Option.isSome_iff_exists.mp hline
    exact ⟨t, _, t.kind, mode, line, pause, unload, flow, cls, guard, hkind, ⟨rfl, ht⟩, hmode, hline, hpause, hunload,
      hflow, hc, hg, rfl⟩

/-- A sound target with the fields it asks for, written out by kind. -/
theorem exists_target_takes {f : OpenFields} :
    (∃ t : Target, f.kind = some t.kind ∧ f.target = t.raw ∧ t.takes f) ↔
      (f.kind = some .passFlow ∧ (∃ p, p ≤ 5 ∧ f.target = .pass p) ∧ f.requestedFlow.isSome = true ∧
          f.pauseCount = none ∧ f.unloadCount = none) ∨
        (f.kind = some .unitPause ∧ f.requestedFlow = none ∧ (∃ n, n ≤ 15 ∧ f.unloadCount = some n) ∧
          ((∃ u, u ≤ 11 ∧ f.target = .fixed u ∧ (f.pauseCount = none ∨ f.pauseCount = some 1)) ∨
            (f.target = .any ∧ ∃ n, 1 ≤ n ∧ n ≤ 12 ∧ f.pauseCount = some n))) := by
  constructor
  · rintro ⟨t, hkind, ht, hfit⟩
    cases t with
    | pass p => exact .inl ⟨hkind, ⟨p.val, by omega, ht⟩, Target.takes_pass.mp hfit⟩
    | fixed u =>
      obtain ⟨hflow, hunload, hpause⟩ := Target.takes_fixed.mp hfit
      exact .inr ⟨hkind, hflow, hunload, .inl ⟨u.val, by omega, ht, hpause⟩⟩
    | any =>
      obtain ⟨hflow, hunload, hpause⟩ := Target.takes_any.mp hfit
      exact .inr ⟨hkind, hflow, hunload, .inr ⟨ht, hpause⟩⟩
  · rintro (⟨hkind, ⟨p, hp, ht⟩, hrest⟩ | ⟨hkind, hflow, hunload, ⟨u, hu, ht, hpause⟩ | ⟨ht, hpause⟩⟩)
    · exact ⟨.pass ⟨p, by omega⟩, hkind, ht, Target.takes_pass.mpr hrest⟩
    · exact ⟨.fixed ⟨u, by omega⟩, hkind, ht, Target.takes_fixed.mpr ⟨hflow, hunload, hpause⟩⟩
    · exact ⟨.any, hkind, ht, Target.takes_any.mpr ⟨hflow, hunload, hpause⟩⟩

/-- The guard of the record is the one given. -/
theorem checkOpt_checkGuard_raw {g : Option RawGuard} {g' : Option Guard} (h : checkOpt checkGuard g = some g') :
    g = g'.map Guard.raw := by
  cases g with
  | none => cases h; rfl
  | some g =>
    obtain ⟨x, hx, rfl⟩ := (checkOpt_eq_some.mp h).1 g rfl
    rw [checkGuard_raw hx]
    rfl

/-- Settles O9: the check is the conjunction of the checks of the fields, and the body is made of what they pass. -/
theorem openWindowAcceptsExactlySoundFields : Obligations.OpenWindowAcceptsExactlySoundFields := by
  intro f
  refine ⟨by rw [checkOpen_isSome, exists_target_takes], fun t b h => ?_⟩
  obtain ⟨kind, mode, line, pause, unload, flow, cls, guard, hkind, ht, hmode, hline, hpause, hunload, hflow, hcls, hguard,
    rfl⟩ := checkOpen_eq_some.mp h
  obtain ⟨rfl, htarget⟩ := checkTarget_eq_some.mp ht
  obtain ⟨hpass, hfixed, hany⟩ := checkPause_eq hpause
  refine ⟨hkind, htarget, checkOpt_checkGuard_raw hguard, hpass, hfixed, hany, index?_eq_some hcls, checkFlow_eq hflow,
    checkUnload_eq hunload, rfl, rfl, rfl, rfl, hmode.symm, checkStart_line hline, rfl, rfl, rfl, ?_, ?_⟩
  · have := checkStart_isSome hline
    cases line <;> simp_all
  · have := checkFlow_isSome hflow
    cases flow <;> simp_all

end Sys2Proof.Machine

namespace Sys2Proof.Machine

/-! ## O6: the bytes of the frames -/

/-! ### The CRC (R184) -/

/-- While no set bit comes to the top, a bit of the CRC is a shift. -/
theorem crcBits_of_small {n k : Nat} {c : BitVec 16} (hc : c.toNat < 2 ^ k) (hk : k + n ≤ 16) :
    crcBits n c = c <<< n := by
  induction n generalizing c k with
  | zero => simp [crcBits]
  | succ n ih =>
    have hpow : 2 ^ k ≤ 2 ^ 15 := Nat.pow_le_pow_right (by decide) (by omega)
    have hmsb : c.msb = false := by
      rw [BitVec.msb_eq_decide, decide_eq_false_iff_not]
      omega
    have hshift : (c <<< 1).toNat < 2 ^ (k + 1) := by
      rw [BitVec.toNat_shiftLeft, Nat.shiftLeft_eq]
      exact lt_of_le_of_lt (Nat.mod_le ..) (by rw [pow_succ]; omega)
    rw [crcBits, crcBit, if_neg (by simp [hmsb]), ih hshift (by omega), ← BitVec.shiftLeft_add, Nat.add_comm]

/-- The high byte of the CRC takes the CRC's low byte to its high byte. -/
theorem crcByte_high (c : BitVec 16) : crcByte c ((c >>> 8).setWidth 8) = c <<< 8 := by
  have hlow : c ^^^ (((c >>> 8).setWidth 8).setWidth 16 <<< 8) = (c.setWidth 8).setWidth 16 := by
    ext i hi
    by_cases h : i < 8
    · simp [h, hi, BitVec.getLsbD_eq_getElem]
    · simp [h, hi, show i - 8 < 8 by omega, show 8 + (i - 8) = i by omega, BitVec.getLsbD_eq_getElem]
  have hsmall : ((c.setWidth 8).setWidth 16).toNat < 2 ^ 8 := by
    simp
    omega
  rw [crcByte, hlow, crcBits_of_small hsmall (by decide)]
  ext i hi
  by_cases h : i < 8
  · simp [h]
  · simp [h, show i - 8 < 8 by omega, BitVec.getLsbD_eq_getElem (show i - 8 < 16 by omega)]

/-- The low byte of the CRC takes what its high byte left to 0. -/
theorem crcByte_low (c : BitVec 16) : crcByte (c <<< 8) (c.setWidth 8) = 0 := by
  have hzero : (c <<< 8) ^^^ ((c.setWidth 8).setWidth 16 <<< 8) = 0 := by
    ext i hi
    by_cases h : i < 8
    · simp [h]
    · simp [h, show i - 8 < 8 by omega, BitVec.getLsbD_eq_getElem (show i - 8 < 16 by omega)]
  rw [crcByte, hzero]
  rfl

theorem crc16_withCrc (bytes : List Byte) : crc16 (withCrc bytes) = 0 := by
  show List.foldl crcByte _ (bytes ++ bytes16 (crc16 bytes)) = 0
  rw [List.foldl_append]
  show List.foldl crcByte (crc16 bytes) _ = 0
  simp only [bytes16, List.foldl_cons, List.foldl_nil, crcByte_high, crcByte_low]

/-! ### The order frame (R188, R190) -/

@[simp] theorem bytes16_length (w : BitVec 16) : (bytes16 w).length = 2 := rfl
@[simp] theorem bytes32_length (w : BitVec 32) : (bytes32 w).length = 4 := rfl
@[simp] theorem flowBytes_length (n : Nat) : (flowBytes n).length = 2 := rfl

@[simp] theorem withCrc_length (bytes : List Byte) : (withCrc bytes).length = bytes.length + 2 := by simp [withCrc]

/-- A table of six, entry by entry. -/
theorem toList_six {α : Type} (v : Vector α 6) : v.toList = [v[0], v[1], v[2], v[3], v[4], v[5]] := by
  refine List.ext_getElem (by simp) fun i h _ => ?_
  have hi : i < 6 := by simpa using h
  rw [Vector.getElem_toList]
  interval_cases i <;> rfl

/-- The bytes of an order frame before its CRC, field by field. -/
theorem OrderFrame.bytes_eq (f : OrderFrame) :
    f.bytes =
      withCrc ([0x5A#8] ++ bytes32 f.interval ++ [edgeKindByte f.kind, f.flagByte, f.forcedByte] ++
        (flowBytes f.setpoints[0] ++ flowBytes f.setpoints[1] ++ flowBytes f.setpoints[2] ++ flowBytes f.setpoints[3] ++
          flowBytes f.setpoints[4] ++ flowBytes f.setpoints[5]) ++
        flowBytes f.tt ++ flowBytes f.spill ++ flowBytes f.qUsed) := by
  simp [OrderFrame.bytes, toList_six]

theorem OrderFrame.bytes_length (f : OrderFrame) : f.bytes.length = 28 := by simp [OrderFrame.bytes_eq]

@[simp] theorem uartByte_length (b : Byte) : (uartByte b).length = 10 := by simp [uartByte]

theorem OrderFrame.bits_length (f : OrderFrame) : f.bits.length = 280 := by
  rw [OrderFrame.bits, List.length_flatMap]
  simp [OrderFrame.bytes_length]

theorem flagBit_getLsbD (b : Bool) {n m : Nat} (hn : n < 8) : (flagBit b n).getLsbD m = (b && decide (m = n)) := by
  cases b with
  | false => simp [flagBit]
  | true =>
    simp [flagBit, BitVec.getLsbD_twoPow, hn, eq_comm]

/-- 12.5: the bits of byte 6. -/
theorem OrderFrame.flagByte_getLsbD (f : OrderFrame) (m : Nat) :
    f.flagByte.getLsbD m =
      (f.standby && decide (m = 7) || f.hold && decide (m = 6) || f.deficit && decide (m = 5) ||
        f.stale && decide (m = 4)) := by
  simp [OrderFrame.flagByte, flagBit_getLsbD]

/-- 12.5: the bits of byte 7. -/
theorem OrderFrame.forcedByte_getLsbD (f : OrderFrame) (m : Nat) :
    f.forcedByte.getLsbD m = (indices 6).any fun p => f.forced[p] && decide (m = p.val) := by
  have hfold (l : List PassId) (b : Byte) :
      (l.foldl (fun b p => b ||| flagBit f.forced[p] p.val) b).getLsbD m =
        (b.getLsbD m || l.any fun p => f.forced[p] && decide (m = p.val)) := by
    induction l generalizing b with
    | nil => simp
    | cons p l ih =>
      have hp : p.val < 8 := by omega
      rw [List.foldl_cons, ih, BitVec.getLsbD_or, flagBit_getLsbD _ hp, List.any_cons, Bool.or_assoc]
  rw [OrderFrame.forcedByte, hfold]
  simp

/-- 12.5: bit n of byte 7 is FORCED of pass n. -/
theorem OrderFrame.forcedByte_pass (f : OrderFrame) (p : PassId) : f.forcedByte.getLsbD p.val = f.forced[p] := by
  rw [OrderFrame.forcedByte_getLsbD, Bool.eq_iff_iff, List.any_eq_true]
  constructor
  · rintro ⟨q, -, hq⟩
    obtain ⟨hforced, hpq⟩ := Bool.and_eq_true_iff.mp hq
    rwa [Fin.ext (of_decide_eq_true hpq)]
  · exact fun h => ⟨p, List.mem_finRange p, by simpa using h⟩

theorem OrderFrame.forcedByte_spare (f : OrderFrame) {m : Nat} (hm : 6 ≤ m) : f.forcedByte.getLsbD m = false := by
  rw [OrderFrame.forcedByte_getLsbD, List.any_eq_false]
  intro p _
  simp [show m ≠ p.val by omega]

/-- 12.5: the fields of an order frame stand at their places. -/
theorem OrderFrame.bytes_fields (f : OrderFrame) :
    f.bytes.getD 0 0 = 0x5A#8 ∧ (f.bytes.drop 1).take 4 = bytes32 f.interval ∧ f.bytes.getD 5 0 = edgeKindByte f.kind ∧
      f.bytes.getD 6 0 = f.flagByte ∧ f.bytes.getD 7 0 = f.forcedByte ∧
      (∀ p : PassId, (f.bytes.drop (8 + 2 * p.val)).take 2 = flowBytes f.setpoints[p]) ∧
      (f.bytes.drop 20).take 2 = flowBytes f.tt ∧ (f.bytes.drop 22).take 2 = flowBytes f.spill ∧
      (f.bytes.drop 24).take 2 = flowBytes f.qUsed := by
  rw [OrderFrame.bytes_eq]
  refine ⟨rfl, rfl, rfl, rfl, rfl, fun p => ?_, rfl, rfl, rfl⟩
  fin_cases p <;> rfl

/-! ### The response frame (R182, R185) -/

theorem ResponseBody.bytes_length_le (b : ResponseBody) : b.bytes.length ≤ 253 := List.length_take_le ..

/-- A body of more parts begins with the bytes of the body of fewer. -/
theorem ResponseBody.bytes_prefix {b c : ResponseBody} (h : b.parts <+: c.parts) : b.bytes <+: c.bytes := by
  obtain ⟨rest, hrest⟩ := h
  unfold ResponseBody.bytes
  rw [← hrest, List.flatMap_append]
  exact (List.prefix_append ..).take _

/-- 12.5: a response frame is its length byte, its status byte, its body and the CRC of the three. -/
theorem Response.frame_eq (r : Response) :
    r.frame =
      BitVec.ofNat 8 (r.body.bytes.length + 1) :: statusByte r.status :: (r.body.bytes ++
        bytes16 (crc16 ([BitVec.ofNat 8 (r.body.bytes.length + 1), statusByte r.status] ++ r.body.bytes))) := rfl

theorem Response.frame_layout (r : Response) :
    r.frame.length = r.body.bytes.length + 4 ∧ (r.frame.getD 0 0).toNat = r.body.bytes.length + 1 ∧
      r.frame.getD 1 0 = statusByte r.status ∧ (r.frame.drop 2).take r.body.bytes.length = r.body.bytes := by
  have hlength := r.body.bytes_length_le
  rw [Response.frame_eq]
  refine ⟨by simp, ?_, rfl, ?_⟩
  · show (BitVec.ofNat 8 (r.body.bytes.length + 1)).toNat = _
    rw [BitVec.toNat_ofNat]
    omega
  · show (r.body.bytes ++ _).take r.body.bytes.length = _
    rw [List.take_left]

/-- R182: a read shifts out the frame held, and 00 hex after it or where none is held. -/
theorem State.readByte_of_answered {s : State} {r : Response} (h : s.port = .answered r) (n : Nat) :
    s.readByte n = r.frame.getD n 0 := by
  simp only [State.readByte, h]

theorem State.readByte_of_not_answered {s : State} (h : ∀ r, s.port ≠ .answered r) (n : Nat) : s.readByte n = 0 := by
  unfold State.readByte
  split
  · exact absurd ‹_› (h _)
  · rfl

/-- Settles O6: the CRC runs out over its own bytes, and each field is read off the layout. -/
theorem framesCarryAnIntactCrcAndTheLayout : Obligations.FramesCarryAnIntactCrcAndTheLayout := by
  refine ⟨crc16_withCrc, fun f => ?_, fun r => ?_, rfl, fun dir b a l => ?_, fun h st => ?_,
    fun sticky q line enable lineEnable => ?_, fun s n => ⟨fun h => State.readByte_of_not_answered h n, fun r h => ?_⟩⟩
  · obtain ⟨hstart, hinterval, hkind, hflags, hforced, hsetpoints, htt, hspill, hused⟩ := f.bytes_fields
    refine ⟨f.bytes_length, f.bits_length, crc16_withCrc _, hstart, hinterval, hkind, ?_, ?_, hsetpoints, htt, hspill,
      hused⟩
    · rw [hflags]
      simp only [OrderFrame.flagByte_getLsbD]
      refine ⟨by simp, by simp, by simp, by simp, fun n hn => ?_⟩
      simp [show n ≠ 7 by omega, show n ≠ 6 by omega, show n ≠ 5 by omega, show n ≠ 4 by omega]
    · rw [hforced]
      exact ⟨f.forcedByte_pass, f.forcedByte_spare (by decide), f.forcedByte_spare (by decide)⟩
  · obtain ⟨hlength, hfirst, hstatus, hbody⟩ := r.frame_layout
    refine ⟨r.body.bytes_length_le, fun h => ?_, hlength, hfirst, hstatus, hbody, crc16_withCrc _⟩
    rw [h]
    rfl
  · refine ⟨ResponseBody.bytes_prefix ?_, ResponseBody.bytes_prefix ?_, ResponseBody.bytes_prefix ?_⟩
    · exact List.prefix_append [BodyPart.directory dir] [b.settings, b.runtime]
    · simp [ResponseBody.parts]
    · simp [ResponseBody.parts]
  · exact ResponseBody.bytes_prefix (List.prefix_append [BodyPart.handle h] [.slotState st])
  · exact ResponseBody.bytes_prefix (List.prefix_append [BodyPart.causeSet sticky q line] [.enableSet enable lineEnable])
  · rw [State.readByte_of_answered h]
    refine ⟨fun hn => ?_, fun hn => ?_⟩
    · rw [List.getD_eq_getElem _ _ hn, List.getElem?_eq_getElem hn]
    · rw [List.getD_eq_default _ _ hn]

end Sys2Proof.Machine

namespace Sys2Proof.Machine

/-! ## What an event at a slot reports -/

/-- Two states count corrections alike: their banks and FIX_OVERFLOW agree (R168). -/
def State.countsAs (s t : State) : Prop := s.banks = t.banks ∧ s.hasCause .fixOverflow = t.hasCause .fixOverflow

theorem State.countsAs_of_eq {s t : State} (hb : s.banks = t.banks) (hc : s.causes = t.causes) : s.countsAs t :=
  ⟨hb, State.hasCause_congr hc _⟩

theorem State.countsAs_countFix {s t : State} (h : s.countsAs t) (i : SlotId) : (s.countFix i).countsAs (t.countFix i) := by
  obtain ⟨hbanks, hcause⟩ := h
  unfold State.countFix
  dsimp only
  rw [hbanks]
  split
  · exact ⟨rfl, hcause⟩
  · exact ⟨rfl, by simp⟩

theorem State.countsAs_countFixes {s t : State} (h : s.countsAs t) (i : SlotId) (n : Nat) :
    (s.countFixes i n).countsAs (t.countFixes i n) := by
  induction n generalizing s t with
  | zero => exact h
  | succ n ih => exact ih (State.countsAs_countFix h i)

theorem State.setCauseIf_countsAs {b : Bool} {c : Sticky} {s t : State} (hc : c ≠ .fixOverflow) (h : s.countsAs t) :
    (s.setCauseIf b c).countsAs t := by
  refine ⟨by simpa using h.1, ?_⟩
  rw [State.setCauseIf_hasCause, decide_eq_false hc, Bool.and_false, Bool.false_or, h.2]

/-- Of what an event at a slot reports, its corrections alone are counted (R168). -/
theorem State.noteEffect_countsAs {s t : State} (h : s.countsAs t) (i : SlotId) (e : SlotEffect) :
    (s.noteEffect i e).countsAs (t.countFixes i e.fixes) := by
  have hmap : (if e.slot.record.isNone then { s with tagMap := unmapSlot i s.tagMap } else s).countsAs t := by
    split <;> exact h
  unfold State.noteEffect
  refine State.setCauseIf_countsAs (by decide) (State.setCauseIf_countsAs (by decide) ?_)
  split
  · exact State.countsAs_countFixes hmap i e.fixes
  · exact State.countsAs_countFixes hmap i e.fixes

theorem State.countFix_hasCause {c : Sticky} (hc : c ≠ .fixOverflow) (i : SlotId) (s : State) :
    (s.countFix i).hasCause c = s.hasCause c := by
  unfold State.countFix
  dsimp only
  split
  · rfl
  · rw [State.setCause_hasCause, decide_eq_false (Ne.symm hc), Bool.false_or]
    rfl

theorem State.countFixes_hasCause {c : Sticky} (hc : c ≠ .fixOverflow) (i : SlotId) (n : Nat) (s : State) :
    (s.countFixes i n).hasCause c = s.hasCause c := by
  induction n generalizing s with
  | zero => rfl
  | succ n ih => rw [State.countFixes, ih, State.countFix_hasCause hc]

/-- The causes that an event at a slot sets: STAGE_LOST and NULLIFIED where it reports them (R87, R171). -/
theorem State.noteEffect_hasCause {c : Sticky} (hc : c ≠ .fixOverflow) (i : SlotId) (e : SlotEffect) (s : State) :
    (s.noteEffect i e).hasCause c =
      (e.nullified && decide (.nullified = c) || (e.stageLost && decide (.stageLost = c) || s.hasCause c)) := by
  have hmap : State.hasCause c (if e.slot.record.isNone then { s with tagMap := unmapSlot i s.tagMap } else s) =
      s.hasCause c := by split <;> rfl
  unfold State.noteEffect
  dsimp only
  rw [State.setCauseIf_hasCause, State.setCauseIf_hasCause]
  split
  · rw [State.setRecordQuarantined_hasCause, State.countFixes_hasCause hc, hmap]
  · rw [State.countFixes_hasCause hc, hmap]

@[simp] theorem State.setCauseIf_recordQuarantined (b : Bool) (c : Sticky) (s : State) :
    (s.setCauseIf b c).causes.recordQuarantined = s.causes.recordQuarantined := by
  cases b <;> rfl

@[simp] theorem State.countFixes_recordQuarantined (i : SlotId) (n : Nat) (s : State) :
    (s.countFixes i n).causes.recordQuarantined = s.causes.recordQuarantined := by
  have hone (s : State) : (s.countFix i).causes.recordQuarantined = s.causes.recordQuarantined := by
    unfold State.countFix
    dsimp only
    split <;> rfl
  induction n generalizing s with
  | zero => rfl
  | succ n ih => rw [State.countFixes, ih, hone]

/-- R170: RECORD_QUARANTINED is set where the event reports a quarantine. -/
theorem State.noteEffect_recordQuarantined (i : SlotId) (e : SlotEffect) (s : State) :
    (s.noteEffect i e).causes.recordQuarantined = (e.quarantined || s.causes.recordQuarantined) := by
  have hmap : (if e.slot.record.isNone then { s with tagMap := unmapSlot i s.tagMap } else s).causes = s.causes := by
    split <;> rfl
  unfold State.noteEffect
  dsimp only
  rw [State.setCauseIf_recordQuarantined, State.setCauseIf_recordQuarantined]
  split
  · next hq => rw [hq]; rfl
  · next hq => rw [State.countFixes_recordQuarantined, hmap, Bool.eq_false_of_not_eq_true hq]; rfl

/-- An event that reports nothing writes its slot, and unmaps it where it is freed. -/
theorem State.applyEffect_quiet (i : SlotId) (sl : Slot) (s : State) :
    s.applyEffect i (quietEffect sl) =
      { s with
        slots := s.slots.set i sl
        tagMap := if sl.record.isNone then unmapSlot i s.tagMap else s.tagMap } := by
  obtain ⟨g, r⟩ := sl
  cases r <;> rfl

/-! ## What a checked read leaves, by its check -/

theorem Record.readBody_of_readable {r : Record} (h : r.check ≠ .uncorrectable) :
    r.readBody =
      { record := { r with check := .clean }, fixes := if r.check = .singleBit then 1 else 0, quarantined := false,
        stageLost := false } := by
  obtain ⟨_, _, _, _, _, _, check, _⟩ := r
  cases check
  · rfl
  · rfl
  · exact absurd rfl h

theorem Record.readBody_of_uncorrectable {r : Record} (h : r.check = .uncorrectable) :
    r.readBody =
      { record := { r with life := .quarantined, staged := none }, fixes := 0, quarantined := true,
        stageLost := false } := by
  unfold Record.readBody
  rw [h]

/-- R167, R168, R171: the read of the staged amendment. -/
theorem Record.readStaged_eq (r : Record) :
    r.readStaged =
      { record := { r with staged := r.stagedRead }, fixes := if r.staged.map (·.check) = some .singleBit then 1 else 0,
        quarantined := false, stageLost := decide (r.staged.map (·.check) = some .uncorrectable) } := by
  obtain ⟨_, _, _, _, _, _, _, staged⟩ := r
  rcases staged with _ | ⟨change, _ | _ | _⟩ <;> rfl

theorem Record.readWhole_of_readable {r : Record} (h : r.check ≠ .uncorrectable) :
    r.readWhole =
      { record := { r with check := .clean, staged := r.stagedRead }, fixes := r.corrections, quarantined := false,
        stageLost := decide (r.staged.map (·.check) = some .uncorrectable) } := by
  unfold Record.readWhole
  simp only [Record.readBody_of_readable h, Record.readStaged_eq]
  rfl

theorem Record.readWhole_of_uncorrectable {r : Record} (h : r.check = .uncorrectable) : r.readWhole = r.readBody := by
  unfold Record.readWhole
  simp only [Record.readBody_of_uncorrectable h]
  rfl

/-- A clean amendment is left as it is by its read. -/
theorem Record.stagedRead_of_clean {r : Record} (h : ∀ y, r.staged = some y → y.check = .clean) :
    r.stagedRead = r.staged := by
  obtain ⟨_, _, _, _, _, _, _, staged⟩ := r
  rcases staged with _ | ⟨change, check⟩
  · rfl
  · obtain rfl : check = .clean := h _ rfl
    rfl

/-! ## The state after a request that reads a record -/

/-- Two states with every field alike are one. -/
theorem State.eq_of_fields {s t : State}
    (h : t.inReset = s.inReset ∧ t.port = s.port ∧ t.ready = s.ready ∧ t.receiver = s.receiver ∧ t.arb = s.arb ∧
      t.latches = s.latches ∧ t.slots = s.slots ∧ t.tagMap = s.tagMap ∧ t.time = s.time ∧ t.latched = s.latched ∧
      t.demand = s.demand ∧ t.flow = s.flow ∧ t.pause = s.pause ∧ t.out = s.out ∧ t.sensors = s.sensors ∧
      t.conditions = s.conditions ∧ t.banks = s.banks ∧ t.scrub = s.scrub ∧ t.causes = s.causes ∧
      t.freeIndex = s.freeIndex ∧ t.pending = s.pending) : t = s := by
  cases s
  cases t
  simpa only [State.mk.injEq] using h

/-- A granted request has read the record of slot `i`, of generation `g`, with the result `x`, and has answered `resp`. -/
def State.answerRead (i : SlotId) (g : BitVec 4) (x : ReadResult) (resp : Response) (s : State) : State :=
  (s.holdForRequest.applyEffect i (ReadResult.effect g x)).driveAlert.answer resp

@[simp] theorem State.answer_port (r : Response) (s : State) : (s.answer r).port = .answered r := by
  simp [State.answer]

@[simp] theorem State.answer_hasCause (r : Response) (c : Sticky) (s : State) : (s.answer r).hasCause c = s.hasCause c :=
  State.hasCause_congr (by simp) c

theorem State.countsAs_answer {s t : State} (h : s.countsAs t) (r : Response) : (s.answer r).countsAs t :=
  ⟨by simpa using h.1, by simpa using h.2⟩

theorem State.countsAs_driveAlert {s t : State} (h : s.countsAs t) : s.driveAlert.countsAs t := h

section answerRead
variable (i : SlotId) (g : BitVec 4) (x : ReadResult) (resp : Response) (s : State)

theorem State.answerRead_slots : (s.answerRead i g x resp).slots = s.slots.set i ⟨g, some x.record⟩ := by
  simp [State.answerRead, ReadResult.effect]

theorem State.answerRead_slot : (s.answerRead i g x resp).slots[i] = ⟨g, some x.record⟩ := by
  rw [State.answerRead_slots, slots_set_get, if_pos rfl]

theorem State.answerRead_slot_ne {j : SlotId} (h : j ≠ i) : (s.answerRead i g x resp).slots[j] = s.slots[j] := by
  rw [State.answerRead_slots, slots_set_get, if_neg h.symm]

@[simp] theorem State.answerRead_port : (s.answerRead i g x resp).port = .answered resp := by
  simp [State.answerRead]

theorem State.answerRead_countsAs : (s.answerRead i g x resp).countsAs (s.countFixes i x.fixes) := by
  have h := State.noteEffect_countsAs (s := { s.holdForRequest with slots := s.slots.set i ⟨g, some x.record⟩ }) (t := s)
    (State.countsAs_of_eq rfl rfl) i (ReadResult.effect g x)
  exact State.countsAs_answer (State.countsAs_driveAlert h) resp

theorem State.answerRead_hasCause {c : Sticky} (hc : c ≠ .fixOverflow) :
    (s.answerRead i g x resp).hasCause c = (x.stageLost && decide (.stageLost = c) || s.hasCause c) := by
  rw [State.answerRead, State.answer_hasCause, State.driveAlert_hasCause, State.applyEffect, State.noteEffect_hasCause hc]
  rfl

theorem State.answerRead_recordQuarantined :
    (s.answerRead i g x resp).causes.recordQuarantined = (x.quarantined || s.causes.recordQuarantined) := by
  have hcauses : (s.answerRead i g x resp).causes =
      (s.holdForRequest.applyEffect i (ReadResult.effect g x)).driveAlert.causes := by simp [State.answerRead]
  rw [hcauses, State.driveAlert_causes, State.applyEffect]
  exact State.noteEffect_recordQuarantined i _ _

/-- A request that reads a record changes the slot, the banks and the causes, the port and the arbiter alone. -/
theorem State.answerRead_frame {t : State} (h : t = s.answerRead i g x resp) :
    t = { s with port := t.port, ready := t.ready, arb := t.arb, slots := t.slots, banks := t.banks,
                 causes := t.causes } := by
  subst h
  refine State.eq_of_fields ?_
  simp [State.answerRead, State.applyEffect_tagMap, ReadResult.effect]

end answerRead

end Sys2Proof.Machine

namespace Sys2Proof.Machine

/-- A granted request's work, answered. -/
theorem runRequest_answers {i : Instr} {work : State → State × Response} {s t : State} {resp : Response}
    (hg : s.admission i = .granted) (hw : work s.holdForRequest = (t, resp)) :
    runRequest i work s = .next (t.answer resp) := by
  rw [runRequest_granted hg, hw]

/-! ## O13: RETIRE_WINDOW and PURGE -/

theorem mayChange_iff {iss owner : Issuer} : mayChange iss owner = true ↔ iss = owner ∨ iss = .authority := by
  simp [mayChange]

section retire
variable {iss : Issuer} {x : RawHandle} {h : Handle} {r : Record} {s : State}

theorem retireWindow_badField (hx : checkHandle x = none) : retireWindow iss x s = (s, .bare .badField) := by
  simp [retireWindow, hx]

theorem retireWindow_staleHandle (hx : checkHandle x = some h) (hr : s.recordOf h = none) :
    retireWindow iss x s = (s, .bare .staleHandle) := by
  simp [retireWindow, hx, hr]

theorem retireWindow_notPermitted (hx : checkHandle x = some h) (hr : s.recordOf h = some r)
    (hi : mayChange iss r.owner = false) : retireWindow iss x s = (s, .bare .notPermitted) := by
  simp [retireWindow, hx, hr, hi]

theorem retireWindow_retiring (hx : checkHandle x = some h) (hr : s.recordOf h = some r)
    (hi : mayChange iss r.owner = true) (hp : r.retirePending = true) :
    retireWindow iss x s = (s, .bare .retiring) := by
  simp [retireWindow, hx, hr, hi, hp]

/-- R42: the slot is freed at once. -/
theorem retireWindow_freed (hx : checkHandle x = some h) (hr : s.recordOf h = some r)
    (hi : mayChange iss r.owner = true) (hp : r.retirePending = false) (hl : retiresAtOnce r.life = true) :
    retireWindow iss x s =
      ({ s with
          slots := s.slots.set h.slot { generation := s.slots[h.slot].generation + 1, record := none }
          tagMap := unmapSlot h.slot s.tagMap },
        ⟨.ok, .retired h .freed⟩) := by
  simp only [retireWindow, hx, hr, hi, hp, hl, Bool.not_true, Bool.false_eq_true, if_false, if_true,
    State.applyEffect_quiet]
  rfl

/-- R43: the record retires at the next edge. -/
theorem retireWindow_atEdge (hx : checkHandle x = some h) (hr : s.recordOf h = some r)
    (hi : mayChange iss r.owner = true) (hp : r.retirePending = false) (hl : retiresAtOnce r.life = false) :
    retireWindow iss x s =
      ({ s with
          slots := s.slots.set h.slot
            { generation := s.slots[h.slot].generation, record := some { r with retirePending := true } } },
        ⟨.ok, .retired h .atEdge⟩) := by
  simp only [retireWindow, hx, hr, hi, hp, hl, Bool.not_true, Bool.false_eq_true, if_false, State.applyEffect_quiet]
  rfl

theorem retiresAtOnce_iff {l : Life} : retiresAtOnce l = true ↔ l = .staged ∨ l = .ended := by
  cases l <;> simp [retiresAtOnce]

end retire

/-- R46: in STANDBY every slot is freed and the map is emptied. -/
theorem purge_standby {b : Unit} {s : State} (h : s.time.opState = .standby) :
    purge b s = ({ s with slots := mapTable (fun _ sl => sl.freed) s.slots, tagMap := [] }, .bare .ok) := if_pos h

theorem purge_refused {b : Unit} {s : State} (h : s.time.opState ≠ .standby) :
    purge b s = (s, .bare .wrongMode) := if_neg h

/-- Settles O13: each outcome of RETIRE_WINDOW and of PURGE, answered. -/
theorem retireAndPurgeFreeSlots : Obligations.RetireAndPurgeFreeSlots := by
  refine ⟨fun iss x s hg => ⟨fun hx => ?_, fun h hx => ⟨fun hr => ?_, fun r hr => ⟨fun hown hauth => ?_, fun hi =>
    ⟨fun hp => ?_, fun hp hl => ?_, fun hp hstaged hended => ?_⟩⟩⟩⟩, fun iss s hg => ⟨fun hst => ?_, fun hst => ?_⟩⟩
  · exact runRequest_answers hg (retireWindow_badField hx)
  · exact runRequest_answers hg (retireWindow_staleHandle hx hr)
  · exact runRequest_answers hg (retireWindow_notPermitted hx hr (by simp [mayChange, hown, hauth]))
  · exact runRequest_answers hg (retireWindow_retiring hx hr (mayChange_iff.mpr hi) hp)
  · exact runRequest_answers hg (retireWindow_freed hx hr (mayChange_iff.mpr hi) hp (retiresAtOnce_iff.mpr hl))
  · have hl : retiresAtOnce r.life = false := by
      rw [Bool.eq_false_iff, Ne, retiresAtOnce_iff]
      exact not_or.mpr ⟨hstaged, hended⟩
    exact runRequest_answers hg (retireWindow_atEdge hx hr (mayChange_iff.mpr hi) hp hl)
  · exact runRequest_answers hg (purge_standby (b := ()) hst)
  · exact runRequest_answers hg (purge_refused (b := ()) hst)

/-! ## O14: READ_WINDOW -/

theorem checkHandle_eq_none {x : RawHandle} (h : 63 < x.slot ∨ 15 < x.generation) : checkHandle x = none := by
  unfold checkHandle
  split
  · next i hi =>
    have := index?_eq_some hi
    rw [if_neg (by omega)]
  · rfl

section read
variable {iss : Issuer} {x : RawHandle} {h : Handle} {r : Record} {s : State}

theorem readWindow_badField (hx : checkHandle x = none) : readWindow x s = (s, .bare .badField) := by
  simp [readWindow, hx]

theorem readWindow_staleHandle (hx : checkHandle x = some h) (hr : s.recordOf h = none) :
    readWindow x s = (s, .bare .staleHandle) := by
  simp [readWindow, hx, hr]

/-- R52: of a QUARANTINED record the directory entry alone is answered, and nothing is read. -/
theorem readWindow_of_quarantined (hx : checkHandle x = some h) (hr : s.recordOf h = some r)
    (hq : r.life = .quarantined) : readWindow x s = (s, ⟨.quarantined, .directory (r.entry h.generation)⟩) := by
  have hdir : s.slots[h.slot].directory = r.entry h.generation := by rw [State.recordOf_eq_some.mp hr]; rfl
  simp only [readWindow, hx, hr, hq, if_true, hdir]

/-- The answer to READ_WINDOW once the record has been read (R47, R48, R51, R52). -/
def State.readAnswer (h : Handle) (x : ReadResult) (s : State) : Response :=
  if x.quarantined then ⟨.quarantined, .directory (x.record.entry h.generation)⟩
  else
    ⟨.ok, .window (x.record.entry h.generation) x.record.body (x.record.staged.map (·.change)) (s.listFor h x.record)⟩

/-- READ_WINDOW of a record that is not QUARANTINED reads it and answers what the read leaves. -/
theorem readWindow_reads (hx : checkHandle x = some h) (hr : s.recordOf h = some r) (hq : r.life ≠ .quarantined) :
    readWindow x s =
      ((s.applyEffect h.slot (ReadResult.effect h.generation r.readWhole)).driveAlert,
        s.readAnswer h r.readWhole) := by
  have hdir : ((s.applyEffect h.slot (ReadResult.effect h.generation r.readWhole)).driveAlert).slots[
      h.slot].directory = r.readWhole.record.entry h.generation := by
    rw [State.driveAlert_slots, State.applyEffect_slots, slots_set_get, if_pos rfl]
    rfl
  simp only [readWindow, hx, hr, hq, if_false, hdir]
  unfold State.readAnswer
  split <;> rfl

/-- R51: the assignment list goes with a UNIT_PAUSE record alone. -/
theorem State.listFor_eq (h : Handle) (r : Record) (s : State) :
    s.listFor h r = if r.target.kind = .passFlow then none else some s.pause.lists[h.slot] := by
  unfold State.listFor
  cases r.target <;> rfl

theorem Record.corrections_of_clean (hc : r.check = .clean) (hs : ∀ y, r.staged = some y → y.check = .clean) :
    r.corrections = 0 := by
  unfold Record.corrections
  rw [hc]
  cases hy : r.staged with
  | none => rfl
  | some y => simp [hs y hy]

end read

/-- Settles O14: a QUARANTINED record is answered unread; any other is read, and its answer and effect go by the checks of
its body and its amendment. -/
theorem readWindowReadsThroughTheCheck : Obligations.ReadWindowReadsThroughTheCheck := by
  refine ⟨fun iss x s hg => ⟨fun hx => runRequest_answers hg (readWindow_badField (checkHandle_eq_none hx)),
    fun h hx hr => runRequest_answers hg (readWindow_staleHandle hx hr)⟩, fun iss x h r s hg hx hr => ?_⟩
  have hslot := State.recordOf_eq_some.mp hr
  by_cases hq : r.life = .quarantined
  · refine ⟨_, runRequest_answers hg (readWindow_of_quarantined (s := s.holdForRequest) hx hr hq), fun j _ => by simp,
      by simp, State.eq_of_fields (by simp), fun _ => ⟨by simp, by simp⟩, ?_, ?_, ?_⟩
    all_goals exact fun hne => absurd hq hne
  · refine ⟨s.answerRead h.slot h.generation r.readWhole (s.readAnswer h r.readWhole),
      runRequest_answers hg (readWindow_reads (s := s.holdForRequest) hx hr hq),
      fun j hj => State.answerRead_slot_ne _ _ _ _ _ hj, ?_, State.answerRead_frame _ _ _ _ _ rfl,
      fun h => absurd h hq, fun _ hbad => ?_, fun _ hclean hstaged => ?_, fun _ hgood => ?_⟩
    · rw [State.answerRead_slot, hslot]
    · rw [Record.readWhole_of_uncorrectable hbad, Record.readBody_of_uncorrectable hbad]
      refine ⟨?_, (State.answerRead_countsAs ..).1, ?_, ?_⟩
      · rw [State.recordAt, State.answerRead_slot]
      · rw [State.answerRead_recordQuarantined]
        rfl
      · rw [State.answerRead_port]
        rfl
    · have hread : r.readWhole.record = r := by
        rw [Record.readWhole_of_readable (by rw [hclean]; decide), Record.stagedRead_of_clean hstaged, ← hclean]
      have hfixes : r.readWhole.fixes = 0 := by
        rw [Record.readWhole_of_readable (by rw [hclean]; decide)]
        exact Record.corrections_of_clean hclean hstaged
      refine ⟨?_, ?_⟩
      · rw [State.answerRead_slots, hread, ← hslot]
        exact Vector.set_getElem_self _
      · rw [(State.answerRead_countsAs ..).1, hfixes]
        rfl
    · have hread := Record.readWhole_of_readable hgood
      have hcount := State.answerRead_countsAs h.slot h.generation r.readWhole (s.readAnswer h r.readWhole) s
      rw [hread] at hcount ⊢
      refine ⟨?_, hcount.1, hcount.2, fun y hy hbad => ?_, ?_⟩
      · rw [State.recordAt, State.answerRead_slot]
      · rw [State.answerRead_hasCause _ _ _ _ _ (by decide)]
        simp [hy, hbad]
      · rw [State.answerRead_port, State.readAnswer, State.listFor_eq]
        rfl

end Sys2Proof.Machine

namespace Sys2Proof.Machine

/-! ## O11: the amendment of a live record -/

theorem mergedField_or {α : Type} (new old : Option α) : mergedField new old (new.or old) :=
  ⟨fun v h => by rw [h]; rfl, fun h => by rw [h]; rfl⟩

theorem Amendment.merges_mergeInto (new old : Amendment) : new.merges old (new.mergeInto old) :=
  ⟨mergedField_or .., mergedField_or .., mergedField_or .., mergedField_or .., mergedField_or .., mergedField_or ..,
    mergedField_or .., mergedField_or .., mergedField_or ..⟩

/-- What the checks of R33 ask before an amendment is taken, for the record `r` of a slot: the last one makes `a`. -/
structure AmendFields.passes (f : AmendFields) (iss : Issuer) (h : Handle) (r : Record) (a : Amendment) (s : State) :
    Prop where
  handle : checkHandle f.handle = some h
  record : s.recordOf h = some r
  owner : iss = r.owner ∨ iss = .authority
  topClass : namesTopClass f = true → iss = .authority
  notRetiring : r.retirePending = false
  notQuarantined : r.life ≠ .quarantined
  mutable : f.immutable = []
  offset : f.startOffset ≠ none → startOffsetFixed r.life = false
  amendment : checkAmend r.target f = some a

/-- R37: the accepted amendment of a record that is not STAGED is held, its flow clamped. -/
theorem amendWindow_held {iss : Issuer} {f : AmendFields} {h : Handle} {r : Record} {a : Amendment} {s : State}
    (hp : AmendFields.passes f iss h r a s) (hl : r.life ≠ .staged) :
    amendWindow iss f s =
      amendLive h r (a.clamped (s.flowLimit r.target))
        (okStatus (flowClamped (s.flowLimit r.target) a.requestedFlow)) s := by
  have hmay : (!mayChange iss r.owner || namesTopClass f && decide (iss ≠ .authority)) = false := by
    rw [mayChange_iff.mpr hp.owner]
    simpa using hp.topClass
  have hfixed : (!f.immutable.isEmpty || f.startOffset.isSome && startOffsetFixed r.life) = false := by
    rw [hp.mutable]
    cases ho : f.startOffset with
    | none => rfl
    | some v => simp [hp.offset (by rw [ho]; exact Option.some_ne_none v)]
  simp only [amendWindow, hp.handle, hp.record, hmay, hp.notRetiring, hp.notQuarantined, hfixed, hp.amendment, hl,
    Bool.false_eq_true, if_false]

theorem Record.amendedLater_alone {r : Record} {a : Amendment}
    (h : r.staged = none ∨ ∃ x, r.staged = some x ∧ x.check = .uncorrectable) :
    r.amendedLater a = { r with staged := some ⟨a, .clean⟩ } := by
  have hread : r.stagedRead = none := by
    unfold Record.stagedRead
    rcases h with h | ⟨x, h, hx⟩ <;> rw [h]
    exact if_pos hx
  simp only [Record.amendedLater, Record.heldChange, Record.readStaged_eq, hread]

theorem Record.amendedLater_merged {r : Record} {a : Amendment} {x : Staged} (h : r.staged = some x)
    (hx : x.check ≠ .uncorrectable) : r.amendedLater a = { r with staged := some ⟨a.mergeInto x.change, .clean⟩ } := by
  have hread : r.stagedRead = some ⟨x.change, .clean⟩ := by
    unfold Record.stagedRead
    rw [h]
    exact if_neg hx
  simp only [Record.amendedLater, Record.heldChange, Record.readStaged_eq, hread]

/-- Settles O11: the amendment is written beside the body by the one read of what was held. -/
theorem amendmentOfALiveRecordIsHeld : Obligations.AmendmentOfALiveRecordIsHeld := by
  refine ⟨Amendment.merges_mergeInto, fun iss f h r a s hg hh hr hlife hown htop hret himm hoff ha => ?_⟩
  have hslot := State.recordOf_eq_some.mp hr
  have hstaged : r.life ≠ .staged := fun e => by rw [e] at hlife; cases hlife
  have hquar : r.life ≠ .quarantined := fun e => by rw [e] at hlife; cases hlife
  have hpasses : AmendFields.passes f iss h r a s.holdForRequest := ⟨hh, hr, hown, htop, hret, hquar, himm, hoff, ha⟩
  have hwork := amendWindow_held hpasses hstaged
  rw [amendLive_eq] at hwork
  set a' := a.clamped (s.flowLimit r.target)
  set x : ReadResult := { r.readStaged with record := r.amendedLater a' } with hx
  set resp : Response := ⟨okStatus (flowClamped (s.flowLimit r.target) a.requestedFlow), .amended h .held⟩
  have hcount := State.answerRead_countsAs h.slot h.generation x resp s
  have hfixes : x.fixes = if r.staged.map (·.check) = some .singleBit then 1 else 0 := by
    rw [hx, Record.readStaged_eq]
  rw [hfixes] at hcount
  refine ⟨s.answerRead h.slot h.generation x resp, runRequest_answers hg hwork, State.answerRead_port .., fun j hj =>
    State.answerRead_slot_ne _ _ _ _ _ hj, State.answerRead_frame _ _ _ _ _ rfl, fun hheld => ?_, fun y hy hgood => ?_,
    fun y hy hbad => ?_, hcount.1, hcount.2, ?_⟩
  · rw [State.recordAt, State.answerRead_slot]
    exact congrArg some (Record.amendedLater_alone hheld)
  · rw [State.recordAt, State.answerRead_slot]
    exact congrArg some (Record.amendedLater_merged hy hgood)
  · rw [State.answerRead_hasCause _ _ _ _ _ (by decide), hx, Record.readStaged_eq]
    simp [hy, hbad]
  · rw [State.answerRead_slot, hslot]

end Sys2Proof.Machine

namespace Sys2Proof.Machine

/-! ## O42: a trigger latch reaches the ARMED records -/

/-! ### What the events at many slots report together -/

theorem State.foldEffects_countsAs {s t : State} (h : s.countsAs t) (es : SlotId → SlotEffect) (l : List SlotId) :
    (l.foldl (fun acc i => acc.noteEffect i (es i)) s).countsAs
      (l.foldl (fun acc i => acc.countFixes i (es i).fixes) t) := by
  induction l generalizing s t with
  | nil => exact h
  | cons i l ih => exact ih (State.noteEffect_countsAs h i (es i))

/-- Events that lose no amendment and nullify no start set no cause but FIX_OVERFLOW. -/
theorem State.foldEffects_hasCause {c : Sticky} (hc : c ≠ .fixOverflow) {es : SlotId → SlotEffect}
    (hes : ∀ i, (es i).stageLost = false ∧ (es i).nullified = false) (l : List SlotId) (s : State) :
    (l.foldl (fun acc i => acc.noteEffect i (es i)) s).hasCause c = s.hasCause c := by
  induction l generalizing s with
  | nil => rfl
  | cons i l ih =>
    rw [List.foldl_cons, ih, State.noteEffect_hasCause hc, (hes i).1, (hes i).2]
    rfl

theorem State.foldEffects_recordQuarantined (es : SlotId → SlotEffect) (l : List SlotId) (s : State) :
    (l.foldl (fun acc i => acc.noteEffect i (es i)) s).causes.recordQuarantined = true ↔
      s.causes.recordQuarantined = true ∨ ∃ i ∈ l, (es i).quarantined = true := by
  induction l generalizing s with
  | nil => simp
  | cons i l ih =>
    rw [List.foldl_cons, ih, State.noteEffect_recordQuarantined, Bool.or_eq_true, List.exists_mem_cons_iff]
    tauto

/-! ### The latch at one slot -/

section slot
variable {m : LineId} {sl : Slot} {r : Record}

theorem latchSlot_of_not_armed (h : ∀ r, sl.record = some r → r.life ≠ .armed) : latchSlot m sl = quietEffect sl := by
  unfold latchSlot
  split
  · rfl
  · exact if_neg (h _ ‹_›)

/-- The body as the latch leaves it. -/
theorem RecordBody.latch_eq (m : LineId) (b : RecordBody) :
    b.latch m =
      { b with
        triggerSeen := if b.triggerLine = some m then b.triggerSeen.map fun _ => true else b.triggerSeen } := by
  unfold RecordBody.latch
  split <;> rfl

theorem latchSlot_of_readable (hr : sl.record = some r) (hl : r.life = .armed) (hc : r.check ≠ .uncorrectable) :
    latchSlot m sl =
      { slot := { generation := sl.generation, record := some { r with check := .clean, body := r.body.latch m } }
        fixes := if r.check = .singleBit then 1 else 0
        quarantined := false, stageLost := false, nullified := false } := by
  simp only [latchSlot, hr, hl, if_true, Record.readBody_of_readable hc]
  rfl

theorem latchSlot_of_uncorrectable (hr : sl.record = some r) (hl : r.life = .armed) (hc : r.check = .uncorrectable) :
    latchSlot m sl =
      { slot := { generation := sl.generation, record := some { r with life := .quarantined, staged := none } }
        fixes := 0, quarantined := true, stageLost := false, nullified := false } := by
  simp only [latchSlot, hr, hl, if_true, Record.readBody_of_uncorrectable hc]
  rfl

/-- The latch loses no amendment and nullifies no start, and frees no slot. -/
theorem latchSlot_report (m : LineId) (sl : Slot) :
    ((latchSlot m sl).stageLost = false ∧ (latchSlot m sl).nullified = false) ∧
      (latchSlot m sl).slot.record.isSome = sl.record.isSome := by
  by_cases h : ∃ r, sl.record = some r ∧ r.life = .armed
  · obtain ⟨r, hr, hl⟩ := h
    by_cases hc : r.check = .uncorrectable
    · rw [latchSlot_of_uncorrectable hr hl hc, hr]
      exact ⟨⟨rfl, rfl⟩, rfl⟩
    · rw [latchSlot_of_readable hr hl hc, hr]
      exact ⟨⟨rfl, rfl⟩, rfl⟩
  · rw [latchSlot_of_not_armed fun r hr hl => h ⟨r, hr, hl⟩]
    exact ⟨⟨rfl, rfl⟩, rfl⟩

theorem latchSlot_quarantined :
    (latchSlot m sl).quarantined = true ↔ ∃ r, sl.record = some r ∧ r.life = .armed ∧ r.check = .uncorrectable := by
  constructor
  · intro hq
    by_contra hnone
    by_cases h : ∃ r, sl.record = some r ∧ r.life = .armed
    · obtain ⟨r, hr, hl⟩ := h
      rw [latchSlot_of_readable hr hl fun hc => hnone ⟨r, hr, hl, hc⟩] at hq
      cases hq
    · rw [latchSlot_of_not_armed fun r hr hl => h ⟨r, hr, hl⟩] at hq
      cases hq
  · rintro ⟨r, hr, hl, hc⟩
    rw [latchSlot_of_uncorrectable hr hl hc]

end slot

theorem State.latchFixes_eq (m : LineId) (i : SlotId) (s : State) : (latchSlot m s.slots[i]).fixes = s.latchFixes i := by
  unfold State.latchFixes State.recordAt
  cases hr : s.slots[i].record with
  | none =>
    rw [latchSlot_of_not_armed fun r h => absurd (hr.symm.trans h) (Option.some_ne_none r).symm]
    rfl
  | some r =>
    by_cases hl : r.life = .armed
    · by_cases hc : r.check = .uncorrectable
      · rw [latchSlot_of_uncorrectable hr hl hc]
        simp [hc]
      · rw [latchSlot_of_readable hr hl hc]
        simp [hl]
    · rw [latchSlot_of_not_armed fun x h => Option.some.inj (hr.symm.trans h) ▸ hl]
      simp [hl, quietEffect]

/-! ### The latch over the table -/

section table
variable (m : LineId) (s : State)

theorem State.latchTable_countsAs :
    (s.latchTable m).countsAs ((indices 64).foldl (fun u i => u.countFixes i (s.latchFixes i)) s) := by
  unfold State.latchTable
  have h := State.foldEffects_countsAs (s := { s with slots := mapTable (fun _ sl => (latchSlot m sl).slot) s.slots })
    (t := s) (State.countsAs_of_eq rfl rfl) (fun i => latchSlot m s.slots[i]) (indices 64)
  simp only [State.latchFixes_eq] at h
  exact h

theorem State.latchTable_hasCause {c : Sticky} (hc : c ≠ .fixOverflow) : (s.latchTable m).hasCause c = s.hasCause c := by
  unfold State.latchTable
  rw [State.foldEffects_hasCause hc fun i => (latchSlot_report m s.slots[i]).1]
  refine State.hasCause_congr ?_ c
  rfl

theorem State.latchTable_recordQuarantined :
    (s.latchTable m).causes.recordQuarantined = true ↔
      s.causes.recordQuarantined = true ∨
        ∃ i r, s.recordAt i = some r ∧ r.life = .armed ∧ r.check = .uncorrectable := by
  unfold State.latchTable
  rw [State.foldEffects_recordQuarantined]
  simp only [indices, List.mem_finRange, true_and, latchSlot_quarantined, State.recordAt]

theorem State.latchTable_slot (i : SlotId) : (s.latchTable m).slots[i] = (latchSlot m s.slots[i]).slot := by
  rw [State.latchTable_slots, mapTable_get]

theorem State.latchTable_tagMap_of_agrees (h : s.TagMapAgrees) : (s.latchTable m).tagMap = s.tagMap := by
  rw [State.latchTable_tagMap]
  exact State.tagMap_filter_of_agrees h fun e he => by rw [(latchSlot_report m _).2]; exact he

end table

theorem State.grantNext_arb {s t : State} (ha : s.arb = t.arb) (hl : s.latches = t.latches) :
    s.grantNext.arb = t.grantNext.arb := by
  unfold State.grantNext State.tableFree
  rw [ha, hl]
  repeat' split
  all_goals first | rfl | exact ha

/-- The state that a latch taken leaves (R2, R74). -/
theorem exec_triggerLatch_taken {m : LineId} {rest : List LineId} {s : State} (h0 : s.inReset = false)
    (hl : s.latches = m :: rest) (hh : s.arb.holder = .nobody) :
    exec (.triggerLatch m) s = .next (State.grantNext { (s.latchTable m).driveAlert with latches := rest }) := by
  rw [exec_triggerLatch, outsideReset_act h0]
  simp only [State.takeLatch, hl, hh, and_self, if_true]

theorem State.takeLatch_of_held (m : LineId) {s : State} (h : s.arb.holder ≠ .nobody) : s.takeLatch m = s := by
  unfold State.takeLatch
  split
  · rfl
  · exact if_neg fun hm => h hm.2

theorem State.takeLatch_of_not_oldest {m : LineId} {s : State} (h : s.latches.head? ≠ some m) : s.takeLatch m = s := by
  unfold State.takeLatch
  split
  · rfl
  · next m' rest hl => exact if_neg fun hm => h (by rw [hl, hm.1]; rfl)

/-- The causes and banks that a latch taken leaves are those that its reads at the slots leave. -/
theorem State.latchTaken_causes (m : LineId) (rest : List LineId) (s : State) :
    let t := State.grantNext { (s.latchTable m).driveAlert with latches := rest }
    t.banks = (s.latchTable m).banks ∧ (∀ c, t.hasCause c = (s.latchTable m).hasCause c) ∧
      t.causes.recordQuarantined = (s.latchTable m).causes.recordQuarantined := by
  have hcauses : (State.grantNext { (s.latchTable m).driveAlert with latches := rest }).causes =
      (s.latchTable m).driveAlert.causes := by simp
  exact ⟨by simp, fun c => State.hasCause_congr (s := (s.latchTable m).driveAlert) hcauses c, by rw [hcauses]; rfl⟩

/-- Settles O42: what the latch does at each slot, and what the slots report of it together. -/
theorem latchReachesArmedRecords : Obligations.LatchReachesArmedRecords := by
  intro m rest s h0
  refine ⟨fun hl hh => ?_, fun hh => ?_, fun hl => ?_⟩
  · obtain ⟨hbanks, hcauses, hquar⟩ := State.latchTaken_causes m rest s
    have hslot (i : SlotId) : (State.grantNext { (s.latchTable m).driveAlert with latches := rest }).slots[i] =
        (latchSlot m s.slots[i]).slot := by
      rw [← State.latchTable_slot]
      simp
    have hcount := State.latchTable_countsAs m s
    refine ⟨_, exec_triggerLatch_taken h0 hl hh, by simp, State.eq_of_fields (by simp), fun hagrees => ?_,
      State.grantNext_arb (by simp) (by simp), fun i hi => ?_, fun i r hr hlife hcheck => ?_,
      fun i r hr hlife hcheck => ⟨?_, ?_⟩, hbanks.trans hcount.1, (hcauses _).trans hcount.2,
      fun c hc => (hcauses c).trans (State.latchTable_hasCause m s hc), ?_⟩
    · rw [← State.latchTable_tagMap_of_agrees m s hagrees]
      simp
    · rw [hslot, latchSlot_of_not_armed hi]
      rfl
    · rw [hslot, latchSlot_of_readable hr hlife hcheck, RecordBody.latch_eq]
    · rw [hslot, latchSlot_of_uncorrectable hr hlife hcheck]
    · rw [hquar, State.latchTable_recordQuarantined]
      exact .inr ⟨i, r, hr, hlife, hcheck⟩
    · rw [hquar, State.latchTable_recordQuarantined]
  · rw [exec_triggerLatch, outsideReset_act h0, State.takeLatch_of_held m hh]
  · rw [exec_triggerLatch, outsideReset_act h0, State.takeLatch_of_not_oldest hl]

end Sys2Proof.Machine

namespace Sys2Proof.Machine

/-! ## O4: the release of the table -/

/-- R2: latches that wait are taken before any claim is granted. -/
theorem State.releaseTable_of_latches {s : State} (h : s.latches ≠ []) :
    s.releaseTable = { s with arb := { s.arb with holder := .nobody } } := by
  simp [State.releaseTable, State.grantNext, State.tableFree, h]

/-- Settles O4: the arbiter after the release, claim by claim. -/
theorem releaseGrantsTheNextClaim : Obligations.ReleaseGrantsTheNextClaim := by
  intro s r
  refine ⟨rfl, State.releaseTable_of_latches, fun hl => ?_⟩
  have hfree : State.tableFree { s with arb := { s.arb with holder := .nobody } } = true := by
    simp [State.tableFree, hl]
  have hrelease : s.releaseTable = State.grantNext { s with arb := { s.arb with holder := .nobody } } := rfl
  simp only [hrelease, State.grantNext, hfree, if_true]
  refine ⟨fun k hk => ?_, fun he hr => ?_, fun he hr hs => ?_, fun he hr hs => ?_⟩
  · simp only [hk]
  · simp only [he, hr, if_true]
  · simp only [he, hr, hs, Bool.false_eq_true, if_false, if_true]
  · simp only [he, hr, hs, Bool.false_eq_true, if_false]

/-! ## O15: the lookups -/

/-! ### The slots by state (R19, R57) -/

theorem slots_toList (v : Vector Slot 64) : v.toList = (indices 64).map fun i => v[i] := by
  refine List.ext_getElem (by simp [indices]) fun n h _ => ?_
  simp [indices]

theorem State.slotCount_eq (st : SlotState) (s : State) :
    s.slotCount st = ((indices 64).filter fun i => s.slots[i].state = st).length := by
  rw [State.slotCount, slots_toList, List.countP_map, List.countP_eq_length_filter]
  rfl

/-- Each slot is in one of the eight states. -/
theorem sum_countP_state (l : List Slot) :
    (allSlotStates.map fun st => l.countP fun sl => sl.state = st).sum = l.length := by
  induction l with
  | nil => rfl
  | cons sl l ih =>
    have hone : (allSlotStates.map fun st => if sl.state = st then 1 else 0).sum = 1 := by cases sl.state <;> rfl
    simp only [List.countP_cons, decide_eq_true_eq, List.sum_map_add, ih, hone, List.length_cons]

theorem Life.toSlotState_inj {l l' : Life} (h : l.toSlotState = l'.toSlotState) : l = l' := by
  cases l <;> cases l' <;> first | rfl | cases h

theorem Slot.state_free_iff (sl : Slot) : sl.state = .free ↔ sl.record.isNone = true := by
  unfold Slot.state
  cases sl.record with
  | none => simp
  | some r => cases hl : r.life <;> simp [hl, Life.toSlotState]

theorem Slot.state_life_iff (sl : Slot) (l : Life) : sl.state = l.toSlotState ↔ sl.record.map (·.life) = some l := by
  unfold Slot.state
  cases sl.record with
  | none => cases l <;> simp [Life.toSlotState]
  | some r => simpa using ⟨Life.toSlotState_inj, fun h => by rw [h]⟩

theorem State.counts_sum (s : State) : (s.statusReport.counts.map (·.2)).sum = 64 := by
  show ((allSlotStates.map fun st => (st, s.slotCount st)).map (·.2)).sum = 64
  rw [List.map_map]
  exact (sum_countP_state s.slots.toList).trans (by simp)

theorem State.mem_counts {s : State} {st : SlotState} {n : Nat} (h : (st, n) ∈ s.statusReport.counts) :
    n = ((indices 64).filter fun i => s.slots[i].state = st).length := by
  obtain ⟨st', -, he⟩ := List.mem_map.mp (show (st, n) ∈ allSlotStates.map fun st => (st, s.slotCount st) from h)
  cases he
  exact s.slotCount_eq st

/-- R57: the operating state as READ_STATUS names it. -/
theorem OpState.name_iff (o : OpState) :
    (o.name = .standby ↔ o = .standby) ∧ (o.name = .syncing ↔ o = .syncing) ∧ (o.name = .run ↔ o = .run) := by
  cases o <;> simp [OpState.name]

theorem State.holdReport_of_hold {s : State} {o : HoldOrigin} {e : BitVec 32} (h : s.time.opState = .hold o e) :
    s.holdReport.origin = some o ∧ s.holdReport.entry = some e := by
  simp [State.holdReport, h]

theorem State.holdReport_of_not_hold {s : State} (h : ∀ o e, s.time.opState ≠ .hold o e) :
    s.holdReport.origin = none ∧ s.holdReport.entry = none := by
  unfold State.holdReport
  split
  · exact absurd ‹_› (h _ _)
  · exact ⟨rfl, rfl⟩

/-- R160: the owner fields follow the owners in every state. -/
theorem State.holdReport_owners (s : State) :
    s.holdReport.lineHolding = s.time.holdLine.level ∧ s.holdReport.flagHolding = s.time.hostHold := by
  unfold State.holdReport
  split <;> exact ⟨rfl, rfl⟩

/-! ### FIND_TAG (R53) -/

theorem findTag_found {x : BitVec 16} {i : SlotId} {s : State} (hx : x ≠ 0) (h : lookupTag x s.tagMap = some i) :
    findTag x s = (s, ⟨.ok, .found (s.handleOf i) s.slots[i].state⟩) := by
  simp only [findTag, hx, if_false, h]

theorem findTag_noSuch {x : BitVec 16} {s : State} (h : x = 0 ∨ lookupTag x s.tagMap = none) :
    findTag x s = (s, .bare .noSuch) := by
  unfold findTag
  split
  · rfl
  · rw [h.resolve_left ‹_›]

/-- Settles O15: the status is read off the state, and each lookup answers over the state it finds. -/
theorem lookupsAnswerAndChangeNothing : Obligations.LookupsAnswerAndChangeNothing := by
  refine ⟨fun s => ?_, fun iss s => ⟨fun hg => (exec_readStatus ..).trans (runRequest_granted hg),
    fun hg => ⟨fun r hr => ?_, fun hr => ?_⟩,
    fun hg => (exec_readRotation ..).trans (runRequest_granted hg),
    fun hg => (exec_readLines ..).trans (runRequest_granted hg),
    fun hg => (exec_readCauses ..).trans (runRequest_granted hg)⟩,
    fun iss x s hg hagrees => ⟨fun i r hx hr htag => ?_, fun hnone => ?_⟩⟩
  · obtain ⟨hstandby, hsyncing, hrun⟩ := s.time.opState.name_iff
    refine ⟨rfl, rfl, rfl, rfl, hstandby, hsyncing, hrun, fun o e h => ⟨?_, State.holdReport_of_hold h⟩,
      State.holdReport_of_not_hold, s.holdReport_owners.1, s.holdReport_owners.2, rfl, s.counts_sum, fun n hn => ?_,
      fun l n hn => ?_⟩
    · show s.time.opState.name = .hold
      rw [h]
      rfl
    · simpa only [Slot.state_free_iff, Bool.decide_eq_true, State.recordAt] using State.mem_counts hn
    · refine (State.mem_counts hn).trans (congrArg List.length (List.filter_congr fun i _ => ?_))
      exact decide_eq_decide.mpr (Slot.state_life_iff _ l)
  · have hwork : readInterval () s.holdForRequest = (s.holdForRequest, ⟨.ok, .interval r⟩) := by
      simp only [readInterval, State.holdForRequest_flow, hr]
    exact runRequest_answers hg hwork
  · have hwork : readInterval () s.holdForRequest = (s.holdForRequest, ⟨.noSuch, .empty⟩) := by
      simp only [readInterval, State.holdForRequest_flow, hr]
      rfl
    exact runRequest_answers hg hwork
  · have hmem : (x, i) ∈ s.tagMap := (hagrees.1 x i).mpr ⟨hx, r, hr, htag⟩
    have hstate : s.slots[i].state = r.life.toSlotState := by
      rw [Slot.state, show s.slots[i].record = some r from hr]
    rw [← hstate]
    exact runRequest_answers hg (findTag_found (s := s.holdForRequest) hx (lookupTag_of_mem hagrees.2 hmem))
  · refine runRequest_answers hg (findTag_noSuch (s := s.holdForRequest) (hnone.imp_right fun hno => ?_))
    refine lookupTag_eq_none.mpr fun hx => ?_
    obtain ⟨⟨y, i⟩, hmem, rfl⟩ := List.mem_map.mp hx
    obtain ⟨-, r, hr, htag⟩ := (hagrees.1 y i).mp hmem
    exact hno i r hr htag

/-! ## O60: the state after full reset -/

theorem reset_linesAgree : State.reset.LinesAgree := by
  refine ⟨by decide, by decide, fun f units h => ?_⟩
  cases h

theorem reset_settingsInRange : State.reset.SettingsInRange := by
  have hpass (p : PassId) : State.reset.flow.live.passes[p] = ⟨0, 0, 0, 0⟩ ∧
      State.reset.flow.staged.passes[p] = ⟨none, none, none, none⟩ ∧
      State.reset.flow.bindings[p] = ⟨.idle, 0, false, none⟩ := by
    revert p
    decide
  have hunit (u : UnitId) : State.reset.flow.staged.ratings[u] = none := by revert u; decide
  have hclass : State.reset.flow.staged.classMap[(0 : ClassId)] = none := by decide
  refine ⟨⟨by decide, by decide, by decide, fun p => ?_, by decide, by decide⟩,
    ⟨nofun, nofun, nofun, fun p => ?_, fun u => ?_, ?_⟩, fun p => ?_, nofun, by decide, by decide,
    fun _ => ⟨rfl, fun p => ?_⟩⟩
  · rw [(hpass p).1]
    exact ⟨by decide, by decide, by decide, by decide⟩
  · rw [(hpass p).2.1]
    exact ⟨nofun, nofun, nofun, fun _ => nofun⟩
  · rw [hunit]
    nofun
  · rw [hclass]
    nofun
  · rw [(hpass p).2.2]
    exact ⟨Nat.zero_le _, nofun⟩
  · rw [(hpass p).2.2]

/-- Every law of the part holds of the reset state. -/
theorem reset_sound : State.reset.Sound := by
  have hidle : State.reset.portFree := fun h => by rw [show State.reset.port = .idle from rfl]; nofun
  refine ⟨(State.alertAgrees_iff _).mpr (by decide), ⟨⟨fun _ => ⟨rfl, hidle⟩, fun _ => rfl⟩, fun _ => rfl⟩,
    keepsTable_tagMapAgrees.reset, fun b => ?_, ?_, reset_linesAgree, ⟨by decide, by decide, ?_⟩,
    ⟨fun _ => rfl, fun _ => rfl⟩, reset_settingsInRange, keepsTable_tableFits.reset.2⟩
  · have hbank : State.reset.banks[b] = ⟨0, false⟩ := by revert b; decide
    rw [hbank]
    exact Nat.zero_le _
  · simp [State.UnitsOnce, State.reset, PauseBlock.initial]
  · rintro (h | ⟨e, h⟩) <;> cases h

/-- Settles O60: every law holds at reset, and each field has its chapter's value. -/
theorem resetStateIsAsTheChaptersGive : Obligations.ResetStateIsAsTheChaptersGive := by
  have hslots (i : SlotId) : State.reset.slots[i] = { generation := 0, record := none } := by
    simp [State.reset, Slot.initial]
  have hlists (i : SlotId) : State.reset.pause.lists[i] = [] := by simp [State.reset, PauseBlock.initial]
  exact ⟨reset_sound, hslots, rfl, by decide, rfl, rfl, rfl,
    -- the timebase and the hold
    rfl, rfl, rfl, rfl, rfl, rfl, rfl, rfl, rfl, rfl,
    -- the apportioner
    rfl, rfl, rfl, rfl, rfl, rfl, rfl, rfl, rfl, by decide, by decide, by decide, rfl, rfl, rfl, rfl,
    -- the pause block
    by decide, hlists, by decide, rfl, rfl, rfl, rfl,
    -- the sensor block
    by decide, by decide,
    -- the integrity block and the cause unit
    by decide, rfl, fun c => by cases c <;> decide, rfl, rfl, rfl,
    -- the request port, order output and RESET
    rfl, rfl, rfl, rfl⟩

end Sys2Proof.Machine

/-! # Proofs of opening and amending windows

What OPEN_WINDOW and AMEND_WINDOW answer and write, outcome by outcome (O7, O8, O10, O12); and what an edge makes of a
record with an amendment staged (O20): the pass acts on every record as on the record that step 3 leaves of it. -/

namespace Sys2Proof.Machine

/-! ## OPEN_WINDOW -/

/-- R28: the slot chosen is FREE and no lower one is. -/
theorem State.lowestFree_eq_some {s : State} {i : SlotId} (hi : s.recordAt i = none)
    (hlow : ∀ j : SlotId, j < i → s.recordAt j ≠ none) : s.lowestFree = some i := by
  refine List.find?_eq_some_iff_getElem.mpr
    ⟨Option.isNone_iff_eq_none.mpr hi, i.val, by simp [indices], by simp [indices], ?_⟩
  intro j hj
  have hfull : s.slots[j].record.isSome = true := Option.isSome_iff_ne_none.mpr (hlow ⟨j, by omega⟩ hj)
  simpa [indices] using hfull

/-- R28: with every slot taken none is chosen. -/
theorem State.lowestFree_eq_none {s : State} (h : ∀ j, s.recordAt j ≠ none) : s.lowestFree = none :=
  List.find?_eq_none.mpr fun j _ => by simpa [State.recordAt] using h j

/-- A tag is looked up to a slot exactly where an entry has it (R15). -/
theorem lookupTag_isSome {x : BitVec 16} {m : List (BitVec 16 × SlotId)} :
    (lookupTag x m).isSome = true ↔ ∃ j, (x, j) ∈ m := by
  rw [Option.isSome_iff_ne_none, Ne, lookupTag_eq_none, not_not]
  simp

theorem flowClamped_iff {limit : Nat} {v : Option Nat} : flowClamped limit v = true ↔ ∃ n, v = some n ∧ limit < n := by
  cases v <;> simp [flowClamped]

section openWindow
variable {iss : Issuer} {f : OpenFields} {t : Target} {b : RecordBody} {i : SlotId} {s : State}

theorem openWindow_badField (hc : checkOpen f = none) : openWindow iss f s = (s, .bare .badField) := by
  simp only [openWindow, hc]

theorem openWindow_notPermitted (hc : checkOpen f ≠ none) (htop : f.cls ≤ 1) (hi : iss ≠ .authority) :
    openWindow iss f s = (s, .bare .notPermitted) := by
  obtain ⟨⟨t, b⟩, hc⟩ := Option.ne_none_iff_exists'.mp hc
  simp only [openWindow, hc, if_pos (And.intro htop hi)]

/-- The right to classes 0 and 1 does not refuse the request (R17). -/
theorem not_topClass_denied {n : Nat} (hi : n ≤ 1 → iss = .authority) : ¬(n ≤ 1 ∧ iss ≠ .authority) :=
  fun h => h.2 (hi h.1)

theorem openWindow_dupTag (hc : checkOpen f ≠ none) (hi : f.cls ≤ 1 → iss = .authority) (h0 : f.tag ≠ 0)
    (htag : ∃ j, (f.tag, j) ∈ s.tagMap) : openWindow iss f s = (s, .bare .dupTag) := by
  obtain ⟨⟨t, b⟩, hc⟩ := Option.ne_none_iff_exists'.mp hc
  simp only [openWindow, hc, if_neg (not_topClass_denied hi), if_pos (And.intro h0 (lookupTag_isSome.mpr htag))]

/-- The tag does not refuse the request (R14). -/
theorem not_tag_taken (htag : f.tag ≠ 0 → ∀ j, (f.tag, j) ∉ s.tagMap) :
    ¬(f.tag ≠ 0 ∧ (lookupTag f.tag s.tagMap).isSome = true) := by
  rintro ⟨h0, hsome⟩
  obtain ⟨j, hj⟩ := lookupTag_isSome.mp hsome
  exact htag h0 j hj

theorem openWindow_tableFull (hc : checkOpen f ≠ none) (hi : f.cls ≤ 1 → iss = .authority)
    (htag : f.tag ≠ 0 → ∀ j, (f.tag, j) ∉ s.tagMap) (hfull : ∀ j, s.recordAt j ≠ none) :
    openWindow iss f s = (s, .bare .tableFull) := by
  obtain ⟨⟨t, b⟩, hc⟩ := Option.ne_none_iff_exists'.mp hc
  simp only [openWindow, hc, if_neg (not_topClass_denied hi), if_neg (not_tag_taken htag),
    State.lowestFree_eq_none hfull]

/-- R28 to R31: the request accepted. -/
theorem openWindow_opens (hc : checkOpen f = some (t, b)) (hi : f.cls ≤ 1 → iss = .authority)
    (htag : f.tag ≠ 0 → ∀ j, (f.tag, j) ∉ s.tagMap) (hfree : s.lowestFree = some i) :
    openWindow iss f s =
      (s.openSlot i iss f.tag t { b with requestedFlow := b.requestedFlow.map (min (s.flowLimit t)) },
        { status := okStatus (flowClamped (s.flowLimit t) b.requestedFlow)
          body := .handle { slot := i, generation := s.slots[i].generation } }) := by
  simp only [openWindow, hc, if_neg (not_topClass_denied hi), if_neg (not_tag_taken htag), hfree]

end openWindow

/-- Settles O7: the slot written is the lowest FREE one, and the record is written with its flow clamped. -/
theorem openWindowWritesTheLowestFreeSlot : Obligations.OpenWindowWritesTheLowestFreeSlot := by
  refine ⟨fun s p => rfl, fun limit v => flowClamped_iff, fun iss f t b i s hg hc hi htag hfree hlow => ?_⟩
  have hslot : s.holdForRequest.lowestFree = some i := State.lowestFree_eq_some hfree hlow
  exact runRequest_answers hg (openWindow_opens hc hi htag hslot)

/-- Settles O8: each refusal, answered over the state it finds. -/
theorem openWindowAnswersTheFirstFailingCheck : Obligations.OpenWindowAnswersTheFirstFailingCheck := by
  refine fun iss f s hg => ⟨fun hc => ?_, fun hc htop hi => ?_, fun hc hi h0 htag => ?_, fun hc hi htag hfull => ?_⟩
  · exact runRequest_answers hg (openWindow_badField hc)
  · exact runRequest_answers hg (openWindow_notPermitted hc htop hi)
  · exact runRequest_answers hg (openWindow_dupTag (s := s.holdForRequest) hc hi h0 htag)
  · exact runRequest_answers hg (openWindow_tableFull (s := s.holdForRequest) hc hi htag hfull)

end Sys2Proof.Machine

namespace Sys2Proof.Machine

/-! ## AMEND_WINDOW -/

/-! ### Check 7 (R35) -/

theorem checkGuardChange_isSome {g : RawGuardChange} :
    (checkGuardChange g).isSome = true ↔ ∀ x, g = .given x → x.sound := by
  cases g <;> simp [checkGuardChange, checkGuard_isSome]

theorem checkGuardChange_raw {g : RawGuardChange} {c : GuardChange} (h : checkGuardChange g = some c) : g = c.raw := by
  cases g with
  | given x =>
    obtain ⟨y, hy, rfl⟩ := Option.map_eq_some_iff.mp h
    exact congrArg RawGuardChange.given (checkGuard_raw hy)
  | remove => cases h; rfl

theorem checkAmendFlow_isSome {t : Target} {v : BitVec 16} :
    (checkAmendFlow t v).isSome = true ↔ t.kind = .passFlow := by
  cases t <;> simp [checkAmendFlow, Target.kind]

theorem checkAmendFlow_eq {t : Target} {v : BitVec 16} {n : Nat} (h : checkAmendFlow t v = some n) : n = v.toNat := by
  cases t <;> cases h; rfl

theorem checkAmendPause_isSome {t : Target} {n : Nat} :
    (checkAmendPause t n).isSome = true ↔ t = .any ∧ 1 ≤ n ∧ n ≤ 12 := by
  cases t <;> simp [checkAmendPause, checkRange_isSome]

theorem checkAmendPause_eq {t : Target} {n m : Nat} (h : checkAmendPause t n = some m) : m = n := by
  cases t <;> simp [checkAmendPause, checkRange_eq_some] at h
  exact h.1

theorem checkAmendUnload_isSome {t : Target} {n : Nat} :
    (checkAmendUnload t n).isSome = true ↔ t.kind = .unitPause ∧ n ≤ 15 := by
  cases t <;> simp [checkAmendUnload, checkRange_isSome, Target.kind]

theorem checkAmendUnload_eq {t : Target} {n m : Nat} (h : checkAmendUnload t n = some m) : m = n := by
  cases t <;> simp [checkAmendUnload, checkRange_eq_some] at h <;> exact h.1

/-- What an optional field passes is made of the field carried, where its check makes it so. -/
theorem checkOpt_map {α β γ : Type} {check : α → Option β} {u : α → γ} {v : β → γ}
    (hcheck : ∀ a b, check a = some b → u a = v b) {o : Option α} {p : Option β} (h : checkOpt check o = some p) :
    o.map u = p.map v := by
  cases o with
  | none => cases h; rfl
  | some a =>
    obtain ⟨b, hb, rfl⟩ := Option.map_eq_some_iff.mp h
    exact congrArg some (hcheck a b hb)

theorem namesField_iff {f : AmendFields} :
    namesField f = true ↔
      f.cls ≠ none ∨ f.requestedFlow ≠ none ∨ f.length ≠ none ∨ f.repeats ≠ none ∨ f.guard ≠ none ∨
        f.autoRelease ≠ none ∨ f.pauseCount ≠ none ∨ f.unloadCount ≠ none ∨ f.startOffset ≠ none := by
  simp only [namesField, Bool.or_eq_true, Option.isSome_iff_ne_none, or_assoc]

/-- What check 7 asks, and the amendment it makes. -/
theorem checkAmend_eq_some {t : Target} {f : AmendFields} {a : Amendment} :
    checkAmend t f = some a ↔
      ∃ cls flow guard pause unload,
        checkOpt (index? 8) f.cls = some cls ∧ checkOpt (checkAmendFlow t) f.requestedFlow = some flow ∧
          checkOpt checkGuardChange f.guard = some guard ∧ checkOpt (checkAmendPause t) f.pauseCount = some pause ∧
          checkOpt (checkAmendUnload t) f.unloadCount = some unload ∧ namesField f = true ∧ f.malformed = false ∧
          a = { cls := cls, requestedFlow := flow, length := f.length.map (·.toNat),
                repeats := f.repeats.map (·.toNat), guard := guard, autoRelease := f.autoRelease, pauseCount := pause,
                unloadCount := unload, startOffset := f.startOffset.map (·.toNat) } := by
  simp only [checkAmend, Option.bind_eq_bind, Option.bind_eq_some_iff, Option.pure_def, Option.ite_none_right_eq_some,
    Bool.and_eq_true, Bool.not_eq_true', Option.some.injEq]
  constructor
  · rintro ⟨cls, hc, flow, hf, guard, hg, pause, hp, unload, hu, ⟨hnames, hbody⟩, rfl⟩
    exact ⟨cls, flow, guard, pause, unload, hc, hf, hg, hp, hu, hnames, hbody, rfl⟩
  · rintro ⟨cls, flow, guard, pause, unload, hc, hf, hg, hp, hu, hnames, hbody, rfl⟩
    exact ⟨cls, hc, flow, hf, guard, hg, pause, hp, unload, hu, ⟨hnames, hbody⟩, rfl⟩

/-- The check passes exactly the fields that are sound for the record, field by field. -/
theorem checkAmend_isSome {t : Target} {f : AmendFields} : (checkAmend t f).isSome = true ↔ f.sound t := by
  have hcls : (checkOpt (index? 8) f.cls).isSome = true ↔ ∀ c, f.cls = some c → c ≤ 7 := by
    simp only [checkOpt_isSome, index?_isSome, Nat.lt_succ_iff]
  have hflow : (checkOpt (checkAmendFlow t) f.requestedFlow).isSome = true ↔
      (f.requestedFlow ≠ none → t.kind = .passFlow) := by
    simp only [checkOpt_isSome, checkAmendFlow_isSome, Option.ne_none_iff_exists', forall_exists_index]
  have hguard : (checkOpt checkGuardChange f.guard).isSome = true ↔ ∀ g, f.guard = some (.given g) → g.sound := by
    simp only [checkOpt_isSome, checkGuardChange_isSome]
    exact ⟨fun h g hg => h _ hg g rfl, fun h c hc g hg => h g (hg ▸ hc)⟩
  have hpause : (checkOpt (checkAmendPause t) f.pauseCount).isSome = true ↔
      ∀ n, f.pauseCount = some n → t = .any ∧ 1 ≤ n ∧ n ≤ 12 := by
    simp only [checkOpt_isSome, checkAmendPause_isSome]
  have hunload : (checkOpt (checkAmendUnload t) f.unloadCount).isSome = true ↔
      ∀ n, f.unloadCount = some n → t.kind = .unitPause ∧ n ≤ 15 := by
    simp only [checkOpt_isSome, checkAmendUnload_isSome]
  rw [AmendFields.sound, ← namesField_iff, ← hcls, ← hflow, ← hguard, ← hpause, ← hunload]
  simp only [Option.isSome_iff_exists, checkAmend_eq_some]
  constructor
  · rintro ⟨a, cls, flow, guard, pause, unload, hc, hf, hg, hp, hu, hnames, hbody, -⟩
    exact ⟨hbody, hnames, ⟨cls, hc⟩, ⟨flow, hf⟩, ⟨guard, hg⟩, ⟨pause, hp⟩, ⟨unload, hu⟩⟩
  · rintro ⟨hbody, hnames, ⟨cls, hc⟩, ⟨flow, hf⟩, ⟨guard, hg⟩, ⟨pause, hp⟩, ⟨unload, hu⟩⟩
    exact ⟨_, cls, flow, guard, pause, unload, hc, hf, hg, hp, hu, hnames, hbody, rfl⟩

/-- The amendment is made of the fields named (R32). -/
theorem checkAmend_names {t : Target} {f : AmendFields} {a : Amendment} (h : checkAmend t f = some a) : f.names a := by
  obtain ⟨cls, flow, guard, pause, unload, hc, hf, hg, hp, hu, -, -, rfl⟩ := checkAmend_eq_some.mp h
  have hcls := checkOpt_map (u := id) (v := Fin.val) (fun _ _ h => (index?_eq_some h).symm) hc
  have hflow := checkOpt_map (u := BitVec.toNat) (v := id) (fun _ _ h => (checkAmendFlow_eq h).symm) hf
  have hguard := checkOpt_map (u := id) (v := GuardChange.raw) (fun _ _ h => checkGuardChange_raw h) hg
  have hpause := checkOpt_map (u := id) (v := id) (fun _ _ h => (checkAmendPause_eq h).symm) hp
  have hunload := checkOpt_map (u := id) (v := id) (fun _ _ h => (checkAmendUnload_eq h).symm) hu
  simp only [Option.map_id, id] at hcls hflow hguard hpause hunload
  exact ⟨hcls, hflow.symm, rfl, rfl, hguard, rfl, hpause.symm, hunload.symm, rfl⟩

/-! ### The checks before it (R33, R34) -/

theorem checkHandle_isSome {x : RawHandle} : (checkHandle x).isSome = true ↔ x.slot ≤ 63 ∧ x.generation ≤ 15 := by
  have hslot : x.slot ≤ 63 ↔ (index? 64 x.slot).isSome = true := by rw [index?_isSome]; omega
  rw [hslot, checkHandle]
  cases index? 64 x.slot with
  | none => simp
  | some i => by_cases hg : x.generation < 16 <;> simp [hg] <;> omega

/-- R13: a handle is refused exactly where its slot or its generation is out of range. -/
theorem checkHandle_eq_none_iff {x : RawHandle} : checkHandle x = none ↔ 63 < x.slot ∨ 15 < x.generation := by
  rw [← Option.isNone_iff_eq_none, ← Option.not_isSome, Bool.not_eq_true', ← Bool.not_eq_true, checkHandle_isSome]
  omega

theorem checkHandle_values {x : RawHandle} {h : Handle} (hx : checkHandle x = some h) :
    h.slot.val = x.slot ∧ h.generation.toNat = x.generation := by
  unfold checkHandle at hx
  split at hx
  · next i hi =>
    split at hx <;> cases hx
    refine ⟨index?_eq_some hi, ?_⟩
    rw [BitVec.toNat_ofNat]
    omega
  · cases hx

theorem State.recordOf_iff {h : Handle} {r : Record} {s : State} :
    s.recordOf h = some r ↔ s.recordAt h.slot = some r ∧ s.slots[h.slot].generation = h.generation := by
  rw [State.recordOf, Option.ite_none_right_eq_some, and_comm, State.recordAt]

theorem startOffsetFixed_iff {l : Life} : startOffsetFixed l = true ↔ l = .active ∨ l = .suspended ∨ l = .ended := by
  cases l <;> simp [startOffsetFixed]

theorem namesTopClass_iff {f : AmendFields} : namesTopClass f = true ↔ ∃ c, f.cls = some c ∧ c ≤ 1 := by
  unfold namesTopClass
  cases f.cls <;> simp

/-- R17, R33: the issuer may amend the record as the fields ask. -/
theorem amendPermitted_iff {iss owner : Issuer} {f : AmendFields} :
    (!mayChange iss owner || namesTopClass f && decide (iss ≠ .authority)) = false ↔
      (iss = owner ∨ iss = .authority) ∧ (namesTopClass f = true → iss = .authority) := by
  simp [← mayChange_iff]

/-- R34: the fields name nothing that is fixed in the record's state. -/
theorem amendMutable_iff {f : AmendFields} {l : Life} :
    (!f.immutable.isEmpty || f.startOffset.isSome && startOffsetFixed l) = false ↔
      f.immutable = [] ∧ (f.startOffset ≠ none → startOffsetFixed l = false) := by
  simp [← Option.isSome_iff_ne_none]

section amendWindow
variable {iss : Issuer} {f : AmendFields} {h : Handle} {r : Record} {s : State}

theorem amendWindow_badHandle (hh : checkHandle f.handle = none) : amendWindow iss f s = (s, .bare .badField) := by
  simp only [amendWindow, hh]

theorem amendWindow_staleHandle (hh : checkHandle f.handle = some h) (hr : s.recordOf h = none) :
    amendWindow iss f s = (s, .bare .staleHandle) := by
  simp only [amendWindow, hh, hr]

/-! The refusals of a record that the handle names. -/

variable (hh : checkHandle f.handle = some h) (hr : s.recordOf h = some r)
include hh hr

theorem amendWindow_notPermitted
    (hi : iss ≠ r.owner ∧ iss ≠ .authority ∨ namesTopClass f = true ∧ iss ≠ .authority) :
    amendWindow iss f s = (s, .bare .notPermitted) := by
  have hdenied : (!mayChange iss r.owner || namesTopClass f && decide (iss ≠ .authority)) = true := by
    rw [← Bool.not_eq_false, amendPermitted_iff]
    tauto
  simp only [amendWindow, hh, hr, hdenied, if_true]

/-! The refusals of an issuer that may amend the record. -/

variable (hi : (iss = r.owner ∨ iss = .authority) ∧ (namesTopClass f = true → iss = .authority))
include hi

theorem amendWindow_retiring (hp : r.retirePending = true) : amendWindow iss f s = (s, .bare .retiring) := by
  simp only [amendWindow, hh, hr, amendPermitted_iff.mpr hi, hp, Bool.false_eq_true, if_false, if_true]

theorem amendWindow_quarantined (hp : r.retirePending = false) (hq : r.life = .quarantined) :
    amendWindow iss f s = (s, .bare .quarantined) := by
  simp only [amendWindow, hh, hr, amendPermitted_iff.mpr hi, hp, hq, Bool.false_eq_true, if_false, if_true]

theorem amendWindow_immutable (hp : r.retirePending = false) (hq : r.life ≠ .quarantined)
    (hfix : f.immutable ≠ [] ∨ f.startOffset ≠ none ∧ startOffsetFixed r.life = true) :
    amendWindow iss f s = (s, .bare .immutable) := by
  have hfixed : (!f.immutable.isEmpty || f.startOffset.isSome && startOffsetFixed r.life) = true := by
    rw [← Bool.not_eq_false, amendMutable_iff, ← Bool.not_eq_true]
    tauto
  simp only [amendWindow, hh, hr, amendPermitted_iff.mpr hi, hp, hq, hfixed, Bool.false_eq_true, if_false, if_true]

theorem amendWindow_badField (hp : r.retirePending = false) (hq : r.life ≠ .quarantined)
    (hmut : f.immutable = [] ∧ (f.startOffset ≠ none → startOffsetFixed r.life = false))
    (ha : checkAmend r.target f = none) : amendWindow iss f s = (s, .bare .badField) := by
  simp only [amendWindow, hh, hr, amendPermitted_iff.mpr hi, hp, hq, amendMutable_iff.mpr hmut, ha,
    Bool.false_eq_true, if_false]

end amendWindow

/-- R36: the accepted amendment of a STAGED record is written at once, its flow clamped. -/
theorem amendWindow_writes {iss : Issuer} {f : AmendFields} {h : Handle} {r : Record} {a : Amendment} {s : State}
    (hp : AmendFields.passes f iss h r a s) (hl : r.life = .staged) :
    amendWindow iss f s =
      amendStaged h r (a.clamped (s.flowLimit r.target))
        (okStatus (flowClamped (s.flowLimit r.target) a.requestedFlow)) s := by
  have hmutable := amendMutable_iff.mpr ⟨hp.mutable, hp.offset⟩
  simp only [amendWindow, hp.handle, hp.record, amendPermitted_iff.mpr ⟨hp.owner, hp.topClass⟩, hp.notRetiring,
    hp.notQuarantined, hmutable, hp.amendment, if_pos hl, Bool.false_eq_true, if_false]

/-- Settles O12: each check said by what it asks, and each refusal answered over the state it finds. -/
theorem amendWindowAnswersTheFirstFailingCheck : Obligations.AmendWindowAnswersTheFirstFailingCheck := by
  refine ⟨fun t f => ⟨checkAmend_isSome, fun a => checkAmend_names⟩, fun l => startOffsetFixed_iff,
    fun f => namesTopClass_iff, fun x => ⟨checkHandle_eq_none_iff, fun h => checkHandle_values⟩,
    fun h s r => State.recordOf_iff, fun iss s hg =>
    runRequest_answers (work := withFields .mismatch (amendWindow iss)) hg rfl, fun iss f s hg =>
    ⟨fun hh => ?_, fun h hh => ⟨fun hr => ?_, fun r hr => ⟨fun hi => ?_, fun hown htop =>
      ⟨fun hp => ?_, fun hp hq => ?_, fun hp hq hfix => ?_, fun hp hq himm hoff ha => ?_⟩⟩⟩⟩⟩
  · exact runRequest_answers hg (amendWindow_badHandle hh)
  · exact runRequest_answers hg (amendWindow_staleHandle hh hr)
  · exact runRequest_answers hg (amendWindow_notPermitted hh hr hi)
  · exact runRequest_answers hg (amendWindow_retiring hh hr ⟨hown, htop⟩ hp)
  · exact runRequest_answers hg (amendWindow_quarantined hh hr ⟨hown, htop⟩ hp hq)
  · exact runRequest_answers hg (amendWindow_immutable hh hr ⟨hown, htop⟩ hp hq hfix)
  · exact runRequest_answers hg (amendWindow_badField hh hr ⟨hown, htop⟩ hp hq ⟨himm, hoff⟩ ha)

/-! ### What an amendment writes at once (R36) -/

/-- The present fields take the place of the settings, and nothing else changes. -/
theorem Amendment.writes_write (a : Amendment) (b : RecordBody) : a.writes b (b.write a) := by
  have hor {o v : Option Nat} : mergedField o v (o.or v) := mergedField_or o v
  refine ⟨rfl, hor.1, hor.2, rfl, rfl, fun g hg => ?_, fun hg => ?_, fun hg => ?_, rfl, hor.1, hor.2, hor.1, hor.2, rfl,
    rfl, rfl, rfl, rfl, rfl, rfl, rfl⟩
  all_goals
    show changeGuard a.guard b.guard = _
    rw [hg]
    rfl

/-- R36, R168: a body that can be read is written, and the correction of its read reported. -/
theorem amendStaged_of_readable {r : Record} (hc : r.check ≠ .uncorrectable) (h : Handle) (a : Amendment) (st : Status)
    (s : State) :
    amendStaged h r a st s =
      ((s.applyEffect h.slot
          (ReadResult.effect h.generation
            { record := { r with body := r.body.write a, check := .clean }
              fixes := if r.check = .singleBit then 1 else 0, quarantined := false, stageLost := false })).driveAlert,
        ⟨st, .amended h .applied⟩) := by
  simp only [amendStaged, Record.readBody_of_readable hc, Bool.false_eq_true, if_false]

/-- R36, R170: a body that cannot be corrected makes the record QUARANTINED. -/
theorem amendStaged_of_uncorrectable {r : Record} (hc : r.check = .uncorrectable) (h : Handle) (a : Amendment)
    (st : Status) (s : State) :
    amendStaged h r a st s =
      ((s.applyEffect h.slot
          (ReadResult.effect h.generation
            { record := { r with life := .quarantined, staged := none }
              fixes := 0, quarantined := true, stageLost := false })).driveAlert,
        .bare .quarantined) := by
  simp only [amendStaged, Record.readBody_of_uncorrectable hc, if_true]

/-- Settles O10: the body is read once; the amendment is written where it can be read, and the record is quarantined
where it cannot. -/
theorem amendmentOfAStagedRecordIsWrittenAtOnce : Obligations.AmendmentOfAStagedRecordIsWrittenAtOnce := by
  refine ⟨Amendment.writes_write, fun iss f h r a s hg hh hr hlife hown htop hret himm ha => ?_⟩
  have hgen : h.generation = s.slots[h.slot].generation := by rw [State.recordOf_eq_some.mp hr]
  have hpasses : AmendFields.passes f iss h r a s.holdForRequest :=
    ⟨hh, hr, hown, htop, hret, by rw [hlife]; decide, himm, fun _ => by rw [hlife]; rfl, ha⟩
  have hwork := amendWindow_writes hpasses hlife
  refine ⟨fun hgood => ?_, fun hbad => ?_⟩
  · rw [amendStaged_of_readable hgood] at hwork
    refine ⟨s.answerRead h.slot h.generation _ _, runRequest_answers hg hwork, State.answerRead_port .., ?_, ?_,
      (State.answerRead_countsAs ..).1, (State.answerRead_countsAs ..).2,
      fun c hc => State.answerRead_hasCause _ _ _ _ _ hc, State.answerRead_recordQuarantined ..,
      fun j hj => State.answerRead_slot_ne _ _ _ _ _ hj, State.answerRead_frame _ _ _ _ _ rfl⟩
    · exact congrArg Slot.record (State.answerRead_slot ..)
    · exact (congrArg Slot.generation (State.answerRead_slot ..)).trans hgen
  · rw [amendStaged_of_uncorrectable hbad] at hwork
    refine ⟨s.answerRead h.slot h.generation _ _, runRequest_answers hg hwork, State.answerRead_port .., ?_, ?_,
      State.answerRead_recordQuarantined .., (State.answerRead_countsAs ..).1, fun c => ?_,
      fun j hj => State.answerRead_slot_ne _ _ _ _ _ hj, State.answerRead_frame _ _ _ _ _ rfl⟩
    · exact congrArg Slot.record (State.answerRead_slot ..)
    · exact (congrArg Slot.generation (State.answerRead_slot ..)).trans hgen
    · by_cases hc : c = .fixOverflow
      · rw [hc]
        exact (State.answerRead_countsAs ..).2
      · exact State.answerRead_hasCause _ _ _ _ _ hc

end Sys2Proof.Machine

namespace Sys2Proof.Machine

/-! ## The edge and the staged amendment -/

/-! ### Step 3 of the pass -/

/-- The record as step 3 of the edge pass leaves it: read, with its amendment applied or dropped (R80, R82, R171). -/
def Record.atStep3 (r : Record) : Record := { r with body := r.bodyAtStep3, check := .clean, staged := none }

/-- Step 3 takes what the read leaves of the record. -/
theorem stepAmend_of_readable {r : Record} (h : r.check ≠ .uncorrectable) :
    stepAmend r.readWhole.record = r.atStep3 := by
  rw [Record.readWhole_of_readable h]
  unfold stepAmend Record.atStep3 Record.bodyAtStep3
  dsimp only
  cases r.stagedRead with
  | none => rfl
  | some x => rfl

/-- Nothing is left for step 3 to do to the record that it left. -/
theorem Record.atStep3_atStep3 (r : Record) : r.atStep3.atStep3 = r.atStep3 := rfl

/-- R82: an amendment that its read finds is written, and loads the runtime fields it names. -/
theorem Record.atStep3_of_amended {r : Record} {x : Staged} (h : r.staged = some x) (hx : x.check ≠ .uncorrectable) :
    r.atStep3 =
      { r with
        check := .clean
        staged := none
        body :=
          { r.body.write x.change with
            runsLeft := if r.life = .ended then r.body.runsLeft else x.change.repeats.getD r.body.runsLeft
            lead := x.change.startOffset.getD r.body.lead } } := by
  have hread : r.stagedRead = some ⟨x.change, .clean⟩ := by
    rw [Record.stagedRead, h]
    exact if_neg hx
  rw [Record.atStep3, Record.bodyAtStep3, hread]

/-- R171: a lost amendment leaves the body as it is. -/
theorem Record.atStep3_of_lost {r : Record} {x : Staged} (h : r.staged = some x) (hx : x.check = .uncorrectable) :
    r.atStep3 = { r with check := .clean, staged := none } := by
  have hread : r.stagedRead = none := by
    rw [Record.stagedRead, h]
    exact if_pos hx
  rw [Record.atStep3, Record.bodyAtStep3, hread]

/-- The slot as the pass leaves it, of which steps 4 to 9 have made `a` (R80, R91). -/
def Slot.advanced (sl : Slot) (a : Advance) : Slot :=
  match a.record with
  | some r => { generation := sl.generation, record := some r }
  | none => sl.freed

/-- The pass at a record that its read finds whole: steps 4 to 9 act on what step 3 leaves of it. -/
theorem passSlot_of_readable {v : PassView} {sl : Slot} {r : Record} (hr : sl.record = some r)
    (hp : r.retirePending = false) (hq : r.life ≠ .quarantined) (hc : r.check ≠ .uncorrectable) :
    passSlot v sl =
      { slot := sl.advanced (advance v r.atStep3)
        fixes := r.corrections, quarantined := false
        stageLost := decide (r.staged.map (·.check) = some .uncorrectable)
        nullified := (advance v r.atStep3).nullified } := by
  have hread := Record.readWhole_of_readable hc
  have hnot : r.readWhole.quarantined = false := by rw [hread]
  rw [← stepAmend_of_readable hc]
  simp only [passSlot, hr, hp, hq, hnot, Bool.false_eq_true, if_false]
  rw [hread]
  rfl

/-- The slot with `r` in it as the pass finds it after step 3. -/
theorem passSlot_atStep3 {v : PassView} {sl : Slot} {r : Record} (hr : sl.record = some r)
    (hp : r.retirePending = false) (hq : r.life ≠ .quarantined) (hc : r.check ≠ .uncorrectable) :
    (passSlot v { generation := sl.generation, record := some r.atStep3 }).slot = (passSlot v sl).slot := by
  rw [passSlot_of_readable hr hp hq hc, passSlot_of_readable (r := r.atStep3) rfl hp hq (by decide : Check.clean ≠ _),
    Record.atStep3_atStep3]
  rfl

/-! ### Slots that an edge does not tell apart -/

/-- The table `slots` is to the edge as the table of `s`: the pass leaves each slot the same, and the pause records
stand in the same slots when it begins. -/
def State.edgeAlike (k : EdgeKind) (slots : Vector Slot 64) (s : State) : Prop :=
  ∀ i : SlotId, (passSlot (s.edgeView k) slots[i]).slot = (passSlot (s.edgeView k) s.slots[i]).slot ∧
    holdsPause slots[i] = holdsPause s.slots[i]

/-- Of the slots before the walk the demand set looks at the pause records alone (R95). -/
theorem buildDemand_congr {n : BitVec 32} {k : EdgeKind} {b : Vector PassBinding 6} {cm : Vector Tier 8}
    {before before' after : Vector Slot 64} (h : ∀ i : SlotId, holdsPause before[i] = holdsPause before'[i]) :
    buildDemand n k b cm before after = buildDemand n k b cm before' after := by
  simp only [buildDemand, isReleased, h]

section alike
variable {k : EdgeKind} {slots : Vector Slot 64} {s : State} (h : s.edgeAlike k slots)
include h

theorem State.walkedSlots_alike : State.walkedSlots k { s with slots := slots } = s.walkedSlots k := by
  refine Vector.ext fun i hi => ?_
  rw [State.walkedSlots, State.walkedSlots, mapTable_getElem, mapTable_getElem]
  exact (h ⟨i, hi⟩).1

theorem State.edgeDemand_alike : State.edgeDemand k { s with slots := slots } = s.edgeDemand k := by
  rw [State.edgeDemand, State.walkedSlots_alike h]
  exact buildDemand_congr fun i => (h i).2

theorem State.edgePause_alike : State.edgePause k { s with slots := slots } = s.edgePause k := by
  rw [State.edgePause, State.edgeDemand_alike h]
  rfl

theorem State.edgeOrders_alike : State.edgeOrders k { s with slots := slots } = s.edgeOrders k := by
  rw [State.edgeOrders, State.edgePause_alike h]
  rfl

theorem State.edgeRecord_alike : State.edgeRecord k { s with slots := slots } = s.edgeRecord k := by
  rw [State.edgeRecord, State.edgeDemand_alike h, State.edgeOrders_alike h]
  rfl

/-- Over tables that it does not tell apart, the edge leaves the same table, demand set, pause block, flow and order
output. -/
theorem State.edgeWork_alike :
    (s.edgeWork k).slots = (State.edgeWork k { s with slots := slots }).slots ∧
      (s.edgeWork k).tagMap = (State.edgeWork k { s with slots := slots }).tagMap ∧
      (s.edgeWork k).demand = (State.edgeWork k { s with slots := slots }).demand ∧
      (s.edgeWork k).pause = (State.edgeWork k { s with slots := slots }).pause ∧
      (s.edgeWork k).flow = (State.edgeWork k { s with slots := slots }).flow ∧
      (s.edgeWork k).out = (State.edgeWork k { s with slots := slots }).out := by
  simp only [State.edgeWork_slots, State.edgeWork_tagMap, State.edgeWork_demand, State.edgeWork_pause_out,
    State.edgeWork_flow, State.walkedSlots_alike h, State.edgeDemand_alike h, State.edgePause_alike h,
    State.edgeOrders_alike h, State.edgeRecord_alike h]
  simp only [and_self, State.grantedFlow]

end alike

/-- The edge does not tell a record from what step 3 leaves of it. -/
theorem State.edgeAlike_atStep3 {k : EdgeKind} {i : SlotId} {r : Record} {s : State} (hr : s.recordAt i = some r)
    (hp : r.retirePending = false) (hq : r.life ≠ .quarantined) (hc : r.check ≠ .uncorrectable) :
    s.edgeAlike k (s.slots.set i { generation := s.slots[i].generation, record := some r.atStep3 }) := by
  intro j
  rw [slots_set_get]
  split
  case isFalse => exact ⟨rfl, rfl⟩
  case isTrue hij =>
    subst hij
    have hr : s.slots[i].record = some r := hr
    refine ⟨passSlot_atStep3 hr hp hq hc, ?_⟩
    simp only [holdsPause, hr]
    rfl

/-! ### STAGE_LOST at an edge (R171) -/

theorem State.foldEffects_stageLost (es : SlotId → SlotEffect) (l : List SlotId) (s : State) :
    (l.foldl (fun acc i => acc.noteEffect i (es i)) s).hasCause .stageLost = true ↔
      s.hasCause .stageLost = true ∨ ∃ i ∈ l, (es i).stageLost = true := by
  induction l generalizing s with
  | nil => simp
  | cons i l ih =>
    rw [List.foldl_cons, ih, State.noteEffect_hasCause (by decide), List.exists_mem_cons_iff]
    simp
    tauto

/-- The causes that the work after the walk does not set (R100, R109, R134). -/
theorem State.serveEdge_hasCause {c : Sticky}
    (hc : c ∉ [Sticky.shortAssign, .inflowStale, .lowRiver, .deficit, .shortfall0, .shortfall1]) (d : DemandSet)
    (s : State) : (s.serveEdge d).hasCause c = s.hasCause c := by
  simp only [List.mem_cons, List.not_mem_nil, or_false, not_or] at hc
  obtain ⟨hshort, hstale, hlow, hdeficit, hfall0, hfall1⟩ := hc
  have hpause (t : State) : (t.pauseWork d).hasCause c = t.hasCause c := by
    rw [State.pauseWork, State.setCauseIf_hasCause, decide_eq_false (Ne.symm hshort), Bool.and_false, Bool.false_or]
    rfl
  have happortion (u : UnitOrderSet) (t : State) : (t.apportion d u).hasCause c = t.hasCause c := by
    simp only [State.apportion, State.raiseEdgeCauses, State.setCauseIf_hasCause, decide_eq_false (Ne.symm hstale),
      decide_eq_false (Ne.symm hlow), decide_eq_false (Ne.symm hdeficit), decide_eq_false (Ne.symm hfall0),
      decide_eq_false (Ne.symm hfall1), Bool.and_false, Bool.false_or]
    rfl
  have hframe (f : OrderFrame) (units : Vector UnitOrder 12) (t : State) :
      (t.handFrame f units).hasCause c = t.hasCause c := State.hasCause_congr (by simp) c
  have hwrite (r : IntervalRecord) (t : State) : (t.writeBack d r).hasCause c = t.hasCause c :=
    State.hasCause_congr (by simp) c
  rw [State.serveEdge, hwrite, hframe, happortion, hpause]
  rfl

theorem State.walk_stageLost (v : PassView) (s : State) :
    (s.walk v).hasCause .stageLost = true ↔
      s.hasCause .stageLost = true ∨ ∃ i : SlotId, (passSlot v s.slots[i]).stageLost = true := by
  have hslots (slots : Vector Slot 64) : State.hasCause .stageLost { s with slots := slots } = s.hasCause .stageLost :=
    rfl
  simp only [State.walk, State.foldEffects_stageLost, hslots, indices, List.mem_finRange, true_and]

/-- The edge sets STAGE_LOST exactly where the pass at some slot reports a lost amendment. -/
theorem State.edgeWork_stageLost (k : EdgeKind) (s : State) :
    (s.edgeWork k).hasCause .stageLost = true ↔
      s.hasCause .stageLost = true ∨ ∃ i : SlotId, (passSlot (s.edgeView k) s.slots[i]).stageLost = true := by
  have hopen : State.hasCause .stageLost { s.openEdge k with latched := (s.openEdge k).conditionsAt k } =
      s.hasCause .stageLost := State.hasCause_congr rfl _
  rw [State.edgeWork, State.driveAlert_hasCause, State.serveEdge_hasCause (by decide), State.passEdge,
    State.walk_stageLost, hopen]
  rfl

/-- The edge leaves the same of a record and of what step 3 leaves of it. -/
theorem edge_atStep3 {k : EdgeKind} {i : SlotId} {r : Record} {s : State} (hr : s.recordAt i = some r)
    (hp : r.retirePending = false) (hq : r.life ≠ .quarantined) (hc : r.check ≠ .uncorrectable) (hg : s.edgeGranted k) :
    ∃ t u, exec .edgeClaimGrant s = .next t ∧
      exec .edgeClaimGrant
          { s with
            slots := s.slots.set i { generation := s.slots[i].generation, record := some r.atStep3 } } = .next u ∧
      (t.slots = u.slots ∧ t.tagMap = u.tagMap ∧ t.demand = u.demand ∧ t.pause = u.pause ∧ t.flow = u.flow ∧
        t.out = u.out) ∧
      (r.staged.map (·.check) = some .uncorrectable → t.hasCause .stageLost = true) := by
  refine ⟨_, _, exec_edge hg, exec_edge (k := k) hg, ?_, fun hlost => ?_⟩
  · simpa using State.edgeWork_alike (State.edgeAlike_atStep3 (k := k) hr hp hq hc)
  · rw [State.hasCause_congr (s := s.edgeWork k) (by simp), State.edgeWork_stageLost]
    exact .inr ⟨i, by rw [passSlot_of_readable hr hp hq hc]; exact decide_eq_true hlost⟩

/-- Settles O20: step 3 leaves of the record what the statement writes out, with the amendment applied or lost. -/
theorem edgeAppliesTheStagedAmendmentFirst : Obligations.EdgeAppliesTheStagedAmendmentFirst := by
  intro k i r x s hg hr hp hq hc hx
  obtain ⟨t, u, ht, hu, ⟨hslots, hmap, hdemand, hpause, hflow, hout⟩, hlost⟩ := edge_atStep3 hr hp hq hc hg
  refine ⟨fun hgood => ⟨t, u, ht, ?_, hslots, hmap, hdemand, hpause, hflow, hout⟩,
    fun hbad => ⟨t, u, ht, ?_, hslots, hmap, hdemand, hpause, hflow, hout, hlost ?_⟩⟩
  · rw [← Record.atStep3_of_amended hx hgood]
    exact hu
  · rw [← Record.atStep3_of_lost hx hbad]
    exact hu
  · rw [hx]
    exact congrArg some hbad

end Sys2Proof.Machine

/-! # Proofs of finding windows

What LIST_WINDOWS refuses and what it finds (O16). The check passes exactly the bodies that a checked filter and cursor
make; on those the filter accepts exactly the slots wanted; and the walk takes every wanted slot of the stretch that it
examines. -/

namespace Sys2Proof.Machine

/-! ## The filter (R54) -/

/-! ### Fields that pass the check -/

/-- A part of a checked filter as a request carries it; `raw` is the value as carried. -/
def rawPart {α β : Type} (raw : β → α) : Option β → FilterPart α
  | none => .all
  | some b => .only (raw b)

/-- The body of LIST_WINDOWS that carries a checked filter and a cursor. -/
def ListFilter.raw (g : ListFilter) (cursor : Nat) : ListFields :=
  { states := g.states.map some, kind := rawPart id g.kind, target := rawPart Target.raw g.target,
    owner := rawPart id g.owner, cursor := cursor }

theorem allNamed_eq_some {α : Type} {l : List (Option α)} {l' : List α} : allNamed l = some l' ↔ l = l'.map some := by
  induction l generalizing l' with
  | nil => cases l' <;> simp [allNamed]
  | cons o l ih =>
    cases o with
    | none => cases l' <;> simp [allNamed]
    | some a =>
      cases l' with
      | nil => simp [allNamed]
      | cons b l' => simp [allNamed, ih, and_comm]

theorem allNamed_eq_none {α : Type} {l : List (Option α)} : allNamed l = none ↔ none ∈ l := by
  induction l with
  | nil => simp [allNamed]
  | cons o l ih => cases o <;> simp [allNamed, ih]

theorem checkPart_eq_some {α β : Type} {check : α → Option β} {raw : β → α}
    (hcheck : ∀ {a b}, check a = some b ↔ a = raw b) {x : FilterPart α} {o : Option β} :
    checkPart check x = some o ↔ x = rawPart raw o := by
  cases x <;> cases o <;> simp [checkPart, rawPart, hcheck]

theorem checkPart_eq_none {α β : Type} {check : α → Option β} {x : FilterPart α} :
    checkPart check x = none ↔ x = .outside ∨ ∃ a, x = .only a ∧ check a = none := by
  cases x <;> simp [checkPart]

theorem checkListTarget_eq_some {x : RawTarget} {t : Target} : checkListTarget x = some t ↔ x = t.raw := by
  constructor
  · intro h
    cases x with
    | pass n =>
      obtain ⟨p, hp, rfl⟩ := Option.map_eq_some_iff.mp h
      exact congrArg RawTarget.pass (index?_eq_some hp).symm
    | fixed n =>
      obtain ⟨u, hu, rfl⟩ := Option.map_eq_some_iff.mp h
      exact congrArg RawTarget.fixed (index?_eq_some hu).symm
    | any => cases h; rfl
  · rintro rfl
    cases t <;> simp [checkListTarget, Target.raw]

theorem checkListTarget_eq_none {x : RawTarget} : checkListTarget x = none ↔ ¬x.onStation := by
  cases x <;> simp [checkListTarget, RawTarget.onStation, index?, Nat.lt_succ_iff]

/-- R54: the check passes exactly the bodies that a filter with a state and a cursor up to 64 make. -/
theorem checkList_eq_some {f : ListFields} {g : ListFilter} {c : Nat} :
    checkList f = some (g, c) ↔ f = g.raw c ∧ g.states ≠ [] ∧ c ≤ 64 := by
  have hself {α : Type} {a b : α} : some a = some b ↔ a = id b := by simp
  obtain ⟨states, kind, target, owner, cursor⟩ := f
  obtain ⟨states', kind', target', owner'⟩ := g
  simp only [checkList, ListFilter.raw, Option.bind_eq_bind, Option.bind_eq_some_iff, allNamed_eq_some,
    checkPart_eq_some hself, checkPart_eq_some checkListTarget_eq_some, Option.pure_def, Option.ite_none_left_eq_some,
    Option.some.injEq, Prod.mk.injEq, ListFilter.mk.injEq, ListFields.mk.injEq, Bool.or_eq_true, decide_eq_true_eq,
    List.isEmpty_iff, not_or, not_lt]
  constructor
  · rintro ⟨_, hstates, _, hkind, _, htarget, _, howner, ⟨hne, hle⟩, ⟨rfl, rfl, rfl, rfl⟩, rfl⟩
    exact ⟨⟨hstates, hkind, htarget, howner, rfl⟩, hne, hle⟩
  · rintro ⟨⟨hstates, hkind, htarget, howner, rfl⟩, hne, hle⟩
    exact ⟨_, hstates, _, hkind, _, htarget, _, howner, ⟨hne, hle⟩, ⟨rfl, rfl, rfl, rfl⟩, rfl⟩

/-- R54: the request is refused for exactly the faults that the rule names. -/
theorem checkList_eq_none {f : ListFields} : checkList f = none ↔ f.faulty := by
  have hself {α : Type} {x : FilterPart α} : checkPart some x = none ↔ x = .outside := by simp [checkPart_eq_none]
  have htarget : checkPart checkListTarget f.target = none ↔
      f.target = .outside ∨ ∃ x, f.target = .only x ∧ ¬x.onStation := by
    simp only [checkPart_eq_none, checkListTarget_eq_none]
  rw [ListFields.faulty, ← or_assoc (a := f.target = .outside), ← htarget, ← allNamed_eq_none,
    ← hself (x := f.kind), ← hself (x := f.owner)]
  unfold checkList
  cases hstates : allNamed f.states with
  | none => simp
  | some states =>
  cases checkPart some f.kind with
  | none => simp
  | some kind =>
  cases checkPart checkListTarget f.target with
  | none => simp
  | some target =>
  cases checkPart some f.owner with
  | none => simp
  | some owner =>
    -- the four parts pass; an empty set of states and the cursor are left
    have hempty : f.states = [] ↔ states = [] := by simp [allNamed_eq_some.mp hstates]
    simp [hempty, or_iff_not_imp_left]

/-! ### Slots that match -/

theorem Slot.directory_state (sl : Slot) : sl.directory.state = sl.state := by
  unfold Slot.directory Slot.state
  cases sl.record <;> rfl

theorem Slot.directory_owner (sl : Slot) : sl.directory.owner = sl.record.map (·.owner) := by
  unfold Slot.directory
  cases sl.record <;> rfl

theorem Slot.directory_target (sl : Slot) : sl.directory.target = sl.record.map (·.target) := by
  unfold Slot.directory
  cases sl.record <;> rfl

theorem Target.raw_injective : Function.Injective Target.raw := by
  intro t t' h
  exact Option.some.inj ((checkListTarget_eq_some.mpr rfl).symm.trans (checkListTarget_eq_some.mpr h))

/-- A part of the filter matches where it is ALL or the slot's record has the value named. -/
theorem partMatches_iff {α β : Type} [DecidableEq β] {raw : β → α} (hraw : Function.Injective raw) {field : Record → β}
    {o : Option β} {sl : Slot} :
    partMatches o (sl.record.map field) = true ↔ (rawPart raw o).wants (fun r => raw (field r)) sl := by
  cases o with
  | none => simp [partMatches, rawPart, FilterPart.wants]
  | some b => simp [partMatches, rawPart, FilterPart.wants, hraw.eq_iff, eq_comm]

theorem Slot.state_mem_iff {sl : Slot} {states : List SlotState} :
    sl.state ∈ states ↔ (sl.record = none ∧ some SlotState.free ∈ states.map some) ∨
      ∃ r, sl.record = some r ∧ some r.life.toSlotState ∈ states.map some := by
  unfold Slot.state
  cases sl.record <;> simp

/-- The checked filter accepts exactly the slots that the fields want. -/
theorem ListFilter.accepts_iff {g : ListFilter} {c : Nat} {sl : Slot} :
    g.accepts sl = true ↔ (g.raw c).wants sl := by
  have hkind : partMatches g.kind (sl.record.map (·.target.kind)) = true ↔ _ := partMatches_iff Function.injective_id
  have htarget : partMatches g.target (sl.record.map (·.target)) = true ↔ _ := partMatches_iff Target.raw_injective
  have howner : partMatches g.owner (sl.record.map (·.owner)) = true ↔ _ := partMatches_iff Function.injective_id
  simp only [ListFilter.accepts, Slot.directory_state, Slot.directory_owner, Slot.directory_target, Option.map_map,
    Function.comp_def, Bool.and_eq_true, decide_eq_true_eq, Slot.state_mem_iff, hkind, htarget, howner, and_assoc]
  rfl

/-! ## The walk (R55) -/

/-- A slot as LIST_WINDOWS lists it: its handle and its state (R55). -/
def State.listed (s : State) (i : SlotId) : Handle × SlotState := (s.handleOf i, s.slots[i].state)

section walk
variable (accepts : Slot → Bool) {s : State}

/-- A slot that the filter does not accept is passed over. -/
theorem listWalk_skip {n : Nat} {i : SlotId} {sl : Slot} {rest : List (SlotId × Slot)} (h : accepts sl = false) :
    listWalk accepts (n + 1) ((i, sl) :: rest) = listWalk accepts (n + 1) rest := by
  simp [listWalk, h]

/-- The match that leaves no room ends the walk. -/
theorem listWalk_last {i : SlotId} {rest : List (SlotId × Slot)} (h : accepts s.slots[i] = true) :
    listWalk accepts 1 ((i, s.slots[i]) :: rest) = ([s.listed i], i.val + 1) := by
  rw [listWalk, if_pos h]
  rfl

/-- A match that leaves room is listed before what the walk finds in the slots after it. -/
theorem listWalk_more {n : Nat} {i : SlotId} {rest : List (SlotId × Slot)} (h : accepts s.slots[i] = true) :
    listWalk accepts (n + 2) ((i, s.slots[i]) :: rest) =
      (s.listed i :: (listWalk accepts (n + 1) rest).1, (listWalk accepts (n + 1) rest).2) := by
  rw [listWalk, if_pos h]
  rfl

/-- R55: the slots of `ids` before `next` that the filter accepts. -/
def State.matched (s : State) (ids : List SlotId) (next : Nat) : List SlotId :=
  ids.filter fun i => decide (i.val < next) && accepts s.slots[i]

/-- R55: the next cursor of a walk over `ids` with room for `n + 1` matches is 64, or the slot after the last of
`n + 1` matches. -/
def walkEnds (n : Nat) (ids found : List SlotId) (next : Nat) : Prop :=
  next = 64 ∧ found.length ≤ n ∨ found.length = n + 1 ∧ ∃ i ∈ ids, found.getLast? = some i ∧ next = i.val + 1

section cons
variable {i : SlotId} {ids : List SlotId} {next : Nat}

theorem State.matched_cons_skip (hi : accepts s.slots[i] = false) :
    s.matched accepts (i :: ids) next = s.matched accepts ids next :=
  List.filter_cons_of_neg (by rw [hi, Bool.and_false]; exact Bool.false_ne_true)

theorem State.matched_cons_match (hi : accepts s.slots[i] = true) (hnext : i.val < next) :
    s.matched accepts (i :: ids) next = i :: s.matched accepts ids next :=
  List.filter_cons_of_pos (by rw [hi, Bool.and_true]; exact decide_eq_true hnext)

/-- No slot after the next cursor is listed. -/
theorem State.matched_of_after (hids : ∀ j ∈ ids, i < j) : s.matched accepts ids (i.val + 1) = [] :=
  List.filter_eq_nil_iff.mpr fun j hj => by
    have hij : i.val < j.val := hids j hj
    simp [show ¬j.val < i.val + 1 by omega]

theorem walkEnds_cons_skip {n : Nat} {found : List SlotId} (h : walkEnds n ids found next) :
    walkEnds n (i :: ids) found next :=
  h.imp_right fun ⟨hlen, j, hj, hlast⟩ => ⟨hlen, j, .tail _ hj, hlast⟩

theorem walkEnds_cons_match {n : Nat} {found : List SlotId} (h : walkEnds n ids found next) :
    walkEnds (n + 1) (i :: ids) (i :: found) next := by
  refine h.imp (And.imp_right Nat.succ_le_succ) fun ⟨hlen, j, hj, hlast, hnext⟩ => ?_
  exact ⟨congrArg (· + 1) hlen, j, .tail _ hj, by simp [List.getLast?_cons, hlast], hnext⟩

/-- A slot before those walked over is before the next cursor. -/
theorem walkEnds_lt {n : Nat} {found : List SlotId} (h : walkEnds n ids found next) (hids : ∀ j ∈ ids, i < j) :
    i.val < next := by
  obtain ⟨rfl, -⟩ | ⟨-, j, hj, -, rfl⟩ := h
  · exact i.isLt
  · exact Nat.lt_succ_of_lt (hids j hj)

theorem walkEnds_bounds {n c : Nat} {found : List SlotId} (h : walkEnds n ids found next) (hids : ∀ j ∈ ids, c ≤ j.val)
    (hc : c ≤ 64) :
    found.length ≤ n + 1 ∧ c ≤ next ∧ next ≤ 64 ∧ (next < 64 → found.length = n + 1) := by
  obtain ⟨rfl, hlen⟩ | ⟨hlen, j, hj, -, rfl⟩ := h
  · exact ⟨Nat.le_succ_of_le hlen, hc, Nat.le_refl _, fun h => absurd h (Nat.lt_irrefl _)⟩
  · exact ⟨hlen.le, Nat.le_succ_of_le (hids j hj), j.isLt, fun _ => hlen⟩

/-- A walk that lists as many as it may ends after the last match. -/
theorem walkEnds_last {n : Nat} {found : List SlotId} (h : walkEnds n ids found next) (hlen : found.length = n + 1) :
    ∃ j, found.getLast? = some j ∧ next = j.val + 1 := by
  obtain ⟨-, hfew⟩ | ⟨-, j, -, hlast⟩ := h
  · omega
  · exact ⟨j, hlast⟩

end cons

/-- The walk lists exactly the matches of the stretch that it examines. -/
theorem listWalk_spec (n : Nat) {ids : List SlotId} (hids : ids.Pairwise (· < ·)) :
    ∃ next, walkEnds n ids (s.matched accepts ids next) next ∧
      listWalk accepts (n + 1) (ids.map fun i => (i, s.slots[i])) = ((s.matched accepts ids next).map s.listed, next) := by
  induction ids generalizing n with
  | nil => exact ⟨64, .inl ⟨rfl, Nat.zero_le _⟩, rfl⟩
  | cons i ids ih =>
    obtain ⟨hfirst, hids⟩ := List.pairwise_cons.mp hids
    rw [List.map_cons]
    cases hi : accepts s.slots[i] with
    | false =>
      obtain ⟨next, hends, hwalk⟩ := ih n hids
      refine ⟨next, ?_⟩
      rw [State.matched_cons_skip accepts hi, listWalk_skip accepts hi, hwalk]
      exact ⟨walkEnds_cons_skip hends, rfl⟩
    | true =>
      cases n with
      | zero =>
        refine ⟨i.val + 1, ?_⟩
        rw [State.matched_cons_match accepts hi (Nat.lt_succ_self _), State.matched_of_after accepts hfirst,
          listWalk_last accepts hi]
        exact ⟨.inr ⟨rfl, i, .head _, rfl, rfl⟩, rfl⟩
      | succ n =>
        obtain ⟨next, hends, hwalk⟩ := ih n hids
        refine ⟨next, ?_⟩
        rw [State.matched_cons_match accepts hi (walkEnds_lt hends hfirst), listWalk_more accepts hi, hwalk]
        exact ⟨walkEnds_cons_match hends, rfl⟩

end walk

/-! ## LIST_WINDOWS -/

theorem mem_indices_drop {n c : Nat} {i : Fin n} : i ∈ (indices n).drop c ↔ c ≤ i.val := by
  simp only [List.mem_drop_iff_getElem, indices, List.getElem_finRange, List.length_finRange, Fin.ext_iff, Fin.val_cast]
  exact ⟨fun ⟨k, _, hk⟩ => by omega, fun h => ⟨i.val - c, by omega, by omega⟩⟩

theorem indices_drop_pairwise (n c : Nat) : ((indices n).drop c).Pairwise (· < ·) :=
  (List.pairwise_lt_finRange n).drop

theorem listWindows_badField {f : ListFields} {s : State} (h : f.faulty) :
    listWindows f s = (s, .bare .badField) := by
  simp only [listWindows, checkList_eq_none.mpr h]

/-- An accepted LIST_WINDOWS lists, in slot order, the slots wanted from the cursor as far as the next cursor. -/
theorem listWindows_lists {f : ListFields} {s : State} (h : ¬f.faulty) :
    ∃ found next, listWindows f s = (s, ⟨.ok, .list (found.map s.listed) next⟩) ∧
      walkEnds 7 ((indices 64).drop f.cursor) found next ∧ f.cursor ≤ 64 ∧ found.Pairwise (· < ·) ∧
      ∀ i, i ∈ found ↔ f.cursor ≤ i.val ∧ i.val < next ∧ f.wants s.slots[i] := by
  obtain ⟨⟨g, c⟩, hcheck⟩ := Option.ne_none_iff_exists'.mp (mt checkList_eq_none.mp h)
  obtain ⟨rfl, -, hcursor⟩ := checkList_eq_some.mp hcheck
  have hids := indices_drop_pairwise 64 c
  obtain ⟨next, hends, hwalk⟩ := listWalk_spec (s := s) g.accepts 7 hids
  have hwalk : listWalk g.accepts Config.listLimit (s.slotsFrom c) = _ := hwalk
  refine ⟨_, next, ?_, hends, hcursor, hids.filter _, fun i => ?_⟩
  · simp only [listWindows, hcheck, hwalk]
  · simp only [State.matched, List.mem_filter, mem_indices_drop, Bool.and_eq_true, decide_eq_true_eq,
      ListFilter.accepts_iff (c := c)]
    rfl

/-- Settles O16: the walk lists the slots wanted as far as the next cursor, each by its handle and state. -/
theorem listWindowsMissesNoMatch : Obligations.ListWindowsMissesNoMatch := by
  refine fun iss f s hg => ⟨fun hf => runRequest_answers hg (listWindows_badField hf), fun hf => ?_⟩
  obtain ⟨found, next, hlist, hends, hcursor, hsorted, hmem⟩ := listWindows_lists (s := s.holdForRequest) hf
  obtain ⟨hroom, hlow, hhigh, hfull⟩ := walkEnds_bounds hends (fun _ => mem_indices_drop.mp) hcursor
  have hlength : (found.map s.listed).length = found.length := List.length_map _
  have hslots : (found.map s.listed).map (·.1.slot) = found :=
    (List.map_map ..).trans (List.map_id found)
  refine ⟨found.map s.listed, next, runRequest_answers hg hlist, hlength.trans_le hroom, hlow, hhigh,
    fun h => hlength.trans (hfull h), fun e hlen he => ?_, hslots.symm ▸ hsorted, fun e => ?_⟩
  · obtain ⟨j, hlast, hnext⟩ := walkEnds_last hends (hlength.symm.trans hlen)
    rw [List.getLast?_map, hlast] at he
    cases he
    exact hnext
  · rw [List.mem_map]
    constructor
    · rintro ⟨i, hi, rfl⟩
      obtain ⟨hfrom, hto, hwants⟩ := (hmem i).mp hi
      exact ⟨i, hfrom, hto, hwants, rfl⟩
    · rintro ⟨i, hfrom, hto, hwants, rfl⟩
      exact ⟨i, (hmem i).mpr ⟨hfrom, hto, hwants⟩, rfl⟩

end Sys2Proof.Machine

/-! # Proofs of the timebase, the edges and the operating states

The request port comes first (O53, O2, O3); then what the timebase can do at a change of the hold, a mark or START, each
said once, and `KeepsTime`, by which a law of the timebase, the edge claims and the flow settings is kept by every step
(O57, O58); then each statement about an event of the timebase or a granted edge, the settings request and the scrubber. -/

namespace Sys2Proof.Machine

/-! ## O53: READY agrees with the port -/

theorem portFree_iff_of_port {s t : State} (h : t.port = s.port) : t.portFree ↔ s.portFree := by
  simp only [State.portFree, h]

/-- The agreement depends on the reset, the port and READY alone. -/
theorem State.readyAgrees_congr {s t : State} (h : t.inReset = s.inReset ∧ t.port = s.port ∧ t.ready = s.ready)
    (hs : s.ReadyAgrees) : t.ReadyAgrees := by
  obtain ⟨hreset, hport, hready⟩ := h
  simpa only [State.ReadyAgrees, portFree_iff_of_port hport, hreset, hport, hready] using hs

/-- Out of reset, READY low with a request in hand agrees. -/
theorem State.readyAgrees_of_working {s : State} {x : InHand} (h0 : s.inReset = false) (hp : s.port = .working x)
    (hr : s.ready = false) : s.ReadyAgrees := by
  refine ⟨?_, fun h => absurd (h0.symm.trans h) Bool.false_ne_true⟩
  rw [hr]
  exact ⟨fun h => absurd h Bool.false_ne_true, fun h => absurd hp (h.2 x)⟩

/-- Out of reset, READY high with no request in hand agrees. -/
theorem State.readyAgrees_of_portFree {s : State} (h0 : s.inReset = false) (hp : s.portFree) (hr : s.ready = true) :
    s.ReadyAgrees :=
  ⟨⟨fun _ => ⟨h0, hp⟩, fun _ => hr⟩, fun h => absurd (h0.symm.trans h) Bool.false_ne_true⟩

theorem portFree_of_answered {s : State} {r : Response} (h : s.port = .answered r) : s.portFree := fun x hx => by
  rw [h] at hx
  cases hx

@[simp] theorem State.queueRequest_port (i : Instr) (s : State) : (s.queueRequest i).port = .working (.request i) := by
  simp [State.queueRequest]

@[simp] theorem State.queueRequest_ready (i : Instr) (s : State) : (s.queueRequest i).ready = false := by
  simp [State.queueRequest]

@[simp] theorem State.answer_ready (r : Response) (s : State) : (s.answer r).ready = true := by simp [State.answer]

theorem State.readyAgrees_takeFrame (bytes : List Byte) (ok : Bool) {s : State} (h0 : s.inReset = false) :
    (s.takeFrame bytes ok).ReadyAgrees := by
  unfold State.takeFrame
  split
  · exact State.readyAgrees_of_portFree h0 (portFree_of_answered rfl) rfl
  · exact State.readyAgrees_of_working (by simpa using h0) (by simp; rfl) (by simp)

theorem State.readyAgrees_endSelect (bytes : List Byte) (ok : Bool) {s : State} (h0 : s.inReset = false)
    (hs : s.ReadyAgrees) : (s.endSelect bytes ok).ReadyAgrees := by
  unfold State.endSelect
  split
  · exact hs
  · split
    · exact hs
    · unfold State.endFrame
      dsimp only
      split
      · exact State.readyAgrees_congr ⟨rfl, rfl, rfl⟩ hs
      · exact State.readyAgrees_takeFrame _ _ h0

theorem State.heldInReset_readyAgrees (s : State) : s.heldInReset.ReadyAgrees :=
  ⟨⟨fun h => absurd h Bool.false_ne_true, fun h => absurd h.1 Bool.false_ne_true.symm⟩, fun _ => rfl⟩

theorem keeps_readyAgrees : Keeps State.ReadyAgrees where
  queue i s h0 _ _ := State.readyAgrees_of_working (by simpa using h0) (s.queueRequest_port i) (s.queueRequest_ready i)
  hold _ _ _ := State.readyAgrees_congr (by simp)
  answer r s h0 _ :=
    State.readyAgrees_of_portFree (by simpa using h0) (portFree_of_answered (s.answer_port r)) (s.answer_ready r)
  openWindow _ _ _ _ _ := State.readyAgrees_congr (by simp)
  amendWindow _ _ _ _ _ := State.readyAgrees_congr (by simp)
  retireWindow _ _ _ _ _ := State.readyAgrees_congr (by simp)
  purge _ _ _ _ := State.readyAgrees_congr (by simp)
  readWindow _ _ _ _ := State.readyAgrees_congr (by simp)
  reportInflow _ _ _ _ := State.readyAgrees_congr (by simp)
  reportUnits _ _ _ _ := State.readyAgrees_congr (by simp)
  setBinding _ _ _ _ := State.readyAgrees_congr (by simp)
  setSettings _ _ _ _ := State.readyAgrees_congr (by simp)
  loadRotation _ _ _ _ := State.readyAgrees_congr (by simp)
  setLine _ _ _ _ := State.readyAgrees_congr (by simp)
  ackLines _ _ _ _ := State.readyAgrees_congr (by simp)
  setCondition _ _ _ _ := State.readyAgrees_congr (by simp)
  setConditionSource _ _ _ _ := State.readyAgrees_congr (by simp)
  start _ _ _ _ := State.readyAgrees_congr (by simp)
  stop _ _ _ _ := State.readyAgrees_congr (by simp)
  setHostHold _ _ _ _ _ := State.readyAgrees_congr (by simp)
  ackCauses _ _ _ _ := State.readyAgrees_congr (by simp)
  setAlertMask _ _ _ _ := State.readyAgrees_congr (by simp)
  clearTracking _ _ _ _ := State.readyAgrees_congr (by simp)
  frameEnd bytes ok _ h0 := State.readyAgrees_endSelect bytes ok h0
  timed _ _ _ _ := State.readyAgrees_congr (by simp)
  lostMark _ _ _ _ := State.readyAgrees_congr (by simp)
  markBefore _ := State.readyAgrees_congr (by simp)
  lineBefore _ _ _ := State.readyAgrees_congr (by simp)
  markSample _ _ _ _ := State.readyAgrees_congr (by simp)
  holdSample _ _ _ := State.readyAgrees_congr (by simp)
  edge _ _ _ _ := State.readyAgrees_congr (by simp)
  frameDone _ _ _ := State.readyAgrees_congr (by simp)
  lineSample _ _ _ _ := State.readyAgrees_congr (by simp)
  latch _ _ _ := State.readyAgrees_congr (by simp)
  scrubDue _ _ := State.readyAgrees_congr (by simp)
  scrub _ _ _ := State.readyAgrees_congr (by simp)
  free _ _ := State.readyAgrees_congr ⟨rfl, rfl, rfl⟩
  toReset s _ := s.heldInReset_readyAgrees
  fromReset _ _ _ := State.readyAgrees_of_portFree rfl (fun _ h => by cases h) rfl
  pending _ _ := State.readyAgrees_congr ⟨rfl, rfl, rfl⟩

/-- Settles O53: every piece of work that touches the port or the reset leaves READY where they put it. -/
theorem readyAgreementIsKept : Obligations.ReadyAgreementIsKept := fun _ _ hs h => keeps_readyAgrees.step hs h

end Sys2Proof.Machine

namespace Sys2Proof.Machine

/-! ## O2: one request at a time -/

theorem runRequest_queued {i : Instr} {work : State → State × Response} {s : State} (h : s.admission i = .queued) :
    runRequest i work s = .next (s.queueRequest i) := by
  simp only [runRequest, h]

/-- A request's command that is not taken, or whose claim still waits, changes nothing. -/
theorem runRequest_unchanged {i : Instr} {work : State → State × Response} {s : State}
    (h : s.admission i = .ignored ∨ s.admission i = .waiting) : runRequest i work s = .next s := by
  rcases h with h | h <;> simp only [runRequest, h]

/-- On a held table the request taken in hand waits (R74, R75). -/
theorem State.queueRequest_of_held {i : Instr} {s : State} (h : s.tableFree = false) :
    s.queueRequest i =
      { s with port := .working (.request i), ready := false, arb := { s.arb with waitRequest := true } } := by
  have hheld : State.tableFree { s with port := .working (.request i), ready := false } = false := h
  simp only [State.queueRequest, State.presentRequest, hheld, Bool.false_eq_true, if_false]

/-- Settles O2: the outcome by the port, the table and the holder. -/
theorem requestsAreAdmittedOneAtATime : Obligations.RequestsAreAdmittedOneAtATime := by
  intro i s hi h0
  obtain ⟨work, hwork⟩ := exec_request hi
  refine ⟨fun hp hf => ?_, fun hp hf => ?_, fun x hx hr hh => ?_, fun x hx hr hh => ?_, fun x hx hr => ?_⟩
  · rw [admit_of_portFree h0 hp, hf, if_pos rfl]
  · rw [hwork, runRequest_queued (by simp [admit_of_portFree h0 hp, hf]), State.queueRequest_of_held hf]
  · rw [admit_of_working h0 hx, if_pos hr, if_pos hh]
  · rw [hwork, runRequest_unchanged (.inr (by rw [admit_of_working h0 hx, if_pos hr, if_neg hh]))]
  · rw [hwork, runRequest_unchanged (.inl (by simp [admit_of_working h0 hx, hr]))]

/-! ## O3: every request that executes is answered -/

/-- A request's work leaves alone what no request touches (R75): the receiver, the latches, the latched conditions, the
demand set, and the reset. -/
def leavesAlone (work : State → State × Response) : Prop :=
  ∀ s, (work s).1.inReset = s.inReset ∧ (work s).1.receiver = s.receiver ∧ (work s).1.latches = s.latches ∧
    (work s).1.latched = s.latched ∧ (work s).1.demand = s.demand ∧ (work s).1.pending = s.pending

theorem leavesAlone_withFields {α : Type} {work : α → State → State × Response} (b : Body α)
    (h : ∀ a, leavesAlone (work a)) : leavesAlone (withFields b work) := fun s => by
  cases b with
  | mismatch => exact ⟨rfl, rfl, rfl, rfl, rfl, rfl⟩
  | fields a => exact h a s

/-- The command `i` is a request's, whose work leaves alone what no request touches and refuses a body that does not match
with nothing changed (R186). -/
def requestWork (i : Instr) (work : State → State × Response) : Prop :=
  (∀ s, exec i s = runRequest i work s) ∧ leavesAlone work ∧
    (mismatched i = true → ∀ s, work s = (s, .bare .badField))

/-- A request of typed fields. -/
theorem requestWork_fields {α : Type} {i : Instr} {b : Body α} {work : α → State → State × Response}
    (hexec : ∀ s, exec i s = runRequest i (withFields b work) s) (hwork : ∀ a, leavesAlone (work a))
    (hb : mismatched i = true → b = .mismatch) : requestWork i (withFields b work) :=
  ⟨hexec, leavesAlone_withFields b hwork, fun hm s => by rw [hb hm]; rfl⟩

/-- Bytes that are no whole number of items are no items (12.5). -/
theorem parseItems_of_ragged {bytes : List Byte} (h : bytes.length % 4 ≠ 0) : parseItems bytes = none := by
  fun_induction parseItems bytes with
  | case1 => exact absurd rfl h
  | case2 c i hi lo rest ih => rw [ih (by simp only [List.length_cons] at h; omega)]; rfl
  | case3 => rfl

theorem checkSettings_of_ragged {bytes : List Byte} (h : bytes.length % 4 ≠ 0) : checkSettings bytes = none := by
  rw [checkSettings, parseItems_of_ragged h]

theorem setSettings_badField {bytes : List Byte} (h : checkSettings bytes = none) (s : State) :
    setSettings bytes s = (s, .bare .badField) := by
  rw [setSettings, h]

theorem exists_requestWork {i : Instr} (hi : isRequest i) : ∃ work, requestWork i work := by
  cases i with
  | openWindow iss b => exact ⟨_, requestWork_fields (exec_openWindow iss b) (fun _ _ => by simp) of_decide_eq_true⟩
  | amendWindow iss b => exact ⟨_, requestWork_fields (exec_amendWindow iss b) (fun _ _ => by simp) of_decide_eq_true⟩
  | retireWindow iss b => exact ⟨_, requestWork_fields (exec_retireWindow iss b) (fun _ _ => by simp) of_decide_eq_true⟩
  | purge iss b => exact ⟨_, requestWork_fields (exec_purge iss b) (fun _ _ => by simp) of_decide_eq_true⟩
  | readWindow iss b => exact ⟨_, requestWork_fields (exec_readWindow iss b) (fun _ _ => by simp) of_decide_eq_true⟩
  | findTag iss b => exact ⟨_, requestWork_fields (exec_findTag iss b) (fun _ _ => by simp) of_decide_eq_true⟩
  | listWindows iss b => exact ⟨_, requestWork_fields (exec_listWindows iss b) (fun _ _ => by simp) of_decide_eq_true⟩
  | readInterval iss b => exact ⟨_, requestWork_fields (exec_readInterval iss b) (fun _ _ => by simp) of_decide_eq_true⟩
  | readStatus iss b => exact ⟨_, requestWork_fields (exec_readStatus iss b) (fun _ _ => by simp) of_decide_eq_true⟩
  | reportInflow iss b => exact ⟨_, requestWork_fields (exec_reportInflow iss b) (fun _ _ => by simp) of_decide_eq_true⟩
  | reportUnits iss b => exact ⟨_, requestWork_fields (exec_reportUnits iss b) (fun _ _ => by simp) of_decide_eq_true⟩
  | setBinding iss b => exact ⟨_, requestWork_fields (exec_setBinding iss b) (fun _ _ => by simp) of_decide_eq_true⟩
  | setSettings iss bytes =>
    exact ⟨_, exec_setSettings iss bytes, fun _ => by simp,
      fun hm => setSettings_badField (checkSettings_of_ragged (of_decide_eq_true hm))⟩
  | loadRotation iss b => exact ⟨_, requestWork_fields (exec_loadRotation iss b) (fun _ _ => by simp) of_decide_eq_true⟩
  | readRotation iss b => exact ⟨_, requestWork_fields (exec_readRotation iss b) (fun _ _ => by simp) of_decide_eq_true⟩
  | setLine iss b => exact ⟨_, requestWork_fields (exec_setLine iss b) (fun _ _ => by simp) of_decide_eq_true⟩
  | readLines iss b => exact ⟨_, requestWork_fields (exec_readLines iss b) (fun _ _ => by simp) of_decide_eq_true⟩
  | ackLines iss b => exact ⟨_, requestWork_fields (exec_ackLines iss b) (fun _ _ => by simp) of_decide_eq_true⟩
  | setCondition iss b => exact ⟨_, requestWork_fields (exec_setCondition iss b) (fun _ _ => by simp) of_decide_eq_true⟩
  | setConditionSource iss b =>
    exact ⟨_, requestWork_fields (exec_setConditionSource iss b) (fun _ _ => by simp) of_decide_eq_true⟩
  | start iss b => exact ⟨_, requestWork_fields (exec_start iss b) (fun _ _ => by simp) of_decide_eq_true⟩
  | stop iss b => exact ⟨_, requestWork_fields (exec_stop iss b) (fun _ _ => by simp) of_decide_eq_true⟩
  | holdOn iss b => exact ⟨_, requestWork_fields (exec_holdOn iss b) (fun _ _ => by simp) of_decide_eq_true⟩
  | holdOff iss b => exact ⟨_, requestWork_fields (exec_holdOff iss b) (fun _ _ => by simp) of_decide_eq_true⟩
  | readCauses iss b => exact ⟨_, requestWork_fields (exec_readCauses iss b) (fun _ _ => by simp) of_decide_eq_true⟩
  | ackCauses iss b => exact ⟨_, requestWork_fields (exec_ackCauses iss b) (fun _ _ => by simp) of_decide_eq_true⟩
  | setAlertMask iss b => exact ⟨_, requestWork_fields (exec_setAlertMask iss b) (fun _ _ => by simp) of_decide_eq_true⟩
  | clearTracking iss b => exact ⟨_, requestWork_fields (exec_clearTracking iss b) (fun _ _ => by simp) of_decide_eq_true⟩
  | _ => exact absurd hi Bool.false_ne_true

/-- A body that does not match is a request's. -/
theorem isRequest_of_mismatched {i : Instr} (h : mismatched i = true) : isRequest i := by
  revert h
  cases i <;> simp [mismatched, isRequest, requestOf]

/-- Settles O3: the work of every request leaves alone what no request touches, and its answer ends the claim. -/
theorem executedRequestIsAnswered : Obligations.ExecutedRequestIsAnswered := by
  refine ⟨fun i s hi hg => ?_, fun i s hg hm => ?_⟩
  · obtain ⟨work, hexec, halone, -⟩ := exists_requestWork hi
    obtain ⟨hreset, hreceiver, hlatches, hlatched, hdemand, hpending⟩ := halone s.holdForRequest
    rw [hexec, runRequest_granted hg]
    refine ⟨_, _, rfl, State.answer_port _ _, State.answer_ready _ _, ?_⟩
    simp only [State.answer_frame, hreset, hreceiver, hlatches, hlatched, hdemand, hpending]
    simpa using not_inReset_of_granted hg
  · obtain ⟨work, hexec, -, hbad⟩ := exists_requestWork (isRequest_of_mismatched hm)
    rw [hexec, runRequest_granted hg, hbad hm]
    rfl

end Sys2Proof.Machine

namespace Sys2Proof.Machine

/-! ## What the timebase does, each said once -/

/-- The operating state becomes `o` with no edge (R69 to R71). -/
def State.enter (o : OpState) (s : State) : State := { s with time := { s.time with opState := o } }

/-- SYNCING, and a hold that began in it: the states of FOLLOW alone (R70, R71). -/
def OpState.ofFollow (o : OpState) : Prop := o = .syncing ∨ ∃ e, o = .hold .syncing e

/-- The edges that leave the operating state as it is (R63, R65, R66). -/
def EdgeKind.staysInRun : EdgeKind → Bool
  | .timed => true
  | .mark => true
  | .self => true
  | _ => false

theorem State.grantNext_time (s : State) : s.grantNext.time = s.time := by simp

theorem State.releaseTable_time (s : State) : s.releaseTable.time = s.time := by simp

theorem State.edgeOutstanding_eq_false {s : State} :
    s.edgeOutstanding = false ↔ s.arb.waitEdge = none ∧ ∀ k, s.arb.holder ≠ .edge k := by
  unfold State.edgeOutstanding
  cases s.arb.waitEdge <;> cases s.arb.holder <;> simp

theorem State.startReleased_internal {s : State} (h : s.time.source = .internal) :
    s.startReleased = s.raiseEdge .start := by
  simp only [State.startReleased, h]

theorem State.startReleased_follow {s : State} (h : s.time.source = .follow) : s.startReleased = s.enter .syncing := by
  simp only [State.startReleased, State.enter, h]

section hold
variable {s : State} {e : BitVec 32}

theorem State.takeHoldChange_run (hl : s.holdLevel = true) (h : s.time.opState = .run) :
    s.takeHoldChange = s.raiseEdge .holdEntry := by
  simp only [State.takeHoldChange, h, hl]

theorem State.takeHoldChange_syncing (hl : s.holdLevel = true) (h : s.time.opState = .syncing) :
    s.takeHoldChange = s.enter (.hold .syncing s.time.interval) := by
  simp only [State.takeHoldChange, h, hl]
  rfl

theorem State.takeHoldChange_hold_run (hl : s.holdLevel = false) (h : s.time.opState = .hold .run e) :
    s.takeHoldChange = s.raiseEdge .holdExit := by
  simp only [State.takeHoldChange, h, hl]

theorem State.takeHoldChange_hold_syncing (hl : s.holdLevel = false) (h : s.time.opState = .hold .syncing e) :
    s.takeHoldChange = s.enter .syncing := by
  simp only [State.takeHoldChange, h, hl]
  rfl

theorem State.takeHoldChange_hold_starting (hl : s.holdLevel = false) (h : s.time.opState = .hold .starting e) :
    s.takeHoldChange = s.startReleased := by
  simp only [State.takeHoldChange, h, hl]

/-- In STANDBY, in HOLD with the level asserted, and outside HOLD with it released, the level changes nothing. -/
theorem State.takeHoldChange_of_agree
    (h : s.time.opState = .standby ∨ s.holdLevel = true ∧ (∃ o e, s.time.opState = .hold o e) ∨
      s.holdLevel = false ∧ ∀ o e, s.time.opState ≠ .hold o e) : s.takeHoldChange = s := by
  unfold State.takeHoldChange
  cases ho : s.time.opState <;> cases hl : s.holdLevel <;> simp_all

/-- R62: what the compare at an edge's release does. -/
theorem State.compareHold_cases (s : State) :
    (s.time.opState = .run ∧ s.holdLevel = true ∧ s.compareHold = s.raiseEdge .holdEntry) ∨
      (∃ e, s.time.opState = .hold .run e ∧ s.holdLevel = false ∧ s.compareHold = s.raiseEdge .holdExit) ∨
      s.compareHold = s := by
  unfold State.compareHold
  split
  · exact .inl ⟨‹_›, ‹_›, rfl⟩
  · exact .inr (.inl ⟨_, ‹_›, ‹_›, rfl⟩)
  · exact .inr (.inr rfl)

end hold

/-- The table is granted to the edge claim alone where one waits, and no edge claim is made. -/
theorem State.grantNext_cases (s : State) :
    s.grantNext = s ∨
      s.arb.holder = .nobody ∧
        ((∃ k, s.arb.waitEdge = some k ∧
            s.grantNext = { s with arb := { s.arb with holder := .edge k, waitEdge := none } }) ∨
          ∃ a : Arbiter, s.arb.waitEdge = none ∧ a.waitEdge = none ∧ (∀ k, a.holder ≠ .edge k) ∧
            s.grantNext = { s with arb := a }) := by
  unfold State.grantNext
  split
  case isFalse => exact .inl rfl
  case isTrue hfree =>
    refine .inr ⟨?_, ?_⟩
    · simp only [State.tableFree, Bool.and_eq_true, decide_eq_true_eq] at hfree
      exact hfree.1
    · split
      case h_1 k hk => exact .inl ⟨k, hk, rfl⟩
      case h_2 hk =>
        refine .inr ?_
        split
        · exact ⟨{ s.arb with holder := .request, waitRequest := false }, hk, hk, nofun, rfl⟩
        · split
          · exact ⟨{ s.arb with holder := .scrubber, waitScrub := false }, hk, hk, nofun, rfl⟩
          · simp only [State.tableFree, Bool.and_eq_true, decide_eq_true_eq] at hfree
            exact ⟨s.arb, hk, hk, fun k h => by simp [hfree.1] at h, rfl⟩

/-! ## A law of the timebase that every step keeps -/

/-- An edge of kind `k` may be raised: none is outstanding, or the state is one in which none can be; and it is in RUN, by
its timer or its window, where the edge stays in it (R62, R63, R65, R68). -/
def State.edgeDue (k : EdgeKind) (s : State) : Prop :=
  (s.time.opState.quiet = true ∨ s.edgeOutstanding = false) ∧
    (k.staysInRun = true → s.time.opState = .run ∨ s.time.timerRunning = true ∨ s.time.windowOpen = true)

/-- The state `o` may be entered with no edge: from a state that raises none into another, and into a state of FOLLOW alone
from FOLLOW (R69 to R71). -/
def State.mayEnter (o : OpState) (s : State) : Prop :=
  s.time.opState.quiet = true ∧ o.quiet = true ∧ o ≠ .standby ∧
    (o.ofFollow → s.time.source = .follow ∨ s.time.opState.ofFollow)

/-- Every piece of work on the timebase keeps `P`, which looks at the timebase, the arbiter and the apportioner alone. -/
structure KeepsTime (P : State → Prop) : Prop where
  congr : ∀ s t, t.time = s.time → t.arb = s.arb → t.flow = s.flow → P s → P t
  reset : P State.reset
  owners : ∀ f g h s, P s → P { s with time := { s.time with markFilter := f, holdLine := g, hostHold := h } }
  claims : ∀ a s, a.waitEdge = s.arb.waitEdge → a.holder = s.arb.holder ∨ (∀ k, a.holder ≠ .edge k) → P s →
    P { s with arb := a }
  grantNext : ∀ s, P s → P s.grantNext
  raiseEdge : ∀ k s, s.edgeDue k → P s → P (s.raiseEdge k)
  enter : ∀ o s, s.mayEnter o → P s → P (s.enter o)
  reportInflow : ∀ v s, P s → P (reportInflow v s).1
  setBinding : ∀ f s, P s → P (setBinding f s).1
  setSettings : ∀ bytes s, P s → P (setSettings bytes s).1
  stop : ∀ s, s.arb.holder = .request → P s → P s.stopNow
  edge : ∀ k s, s.arb.holder = .edge k → P s → P (s.edgeWork k).compareHold.releaseTable

section
variable {P : State → Prop} (K : KeepsTime P)
include K

theorem KeepsTime.releaseTable {s : State} (hs : P s) : P s.releaseTable :=
  K.grantNext _ (K.claims { s.arb with holder := .nobody } s rfl (.inr nofun) hs)

theorem KeepsTime.presentRequest {s : State} (hs : P s) : P s.presentRequest := by
  unfold State.presentRequest
  split
  · exact K.claims _ s rfl (.inr nofun) hs
  · exact K.claims _ s rfl (.inl rfl) hs

theorem KeepsTime.presentScrub {s : State} (hs : P s) : P s.presentScrub := by
  unfold State.presentScrub
  split
  · exact K.claims _ s rfl (.inr nofun) hs
  · exact K.claims _ s rfl (.inl rfl) hs

theorem KeepsTime.skipScrub {s : State} (hs : P s) : P s.skipScrub := by
  unfold State.skipScrub
  split
  · exact K.congr { s with arb := { s.arb with waitScrub := false } } _ rfl rfl rfl (K.claims _ s rfl (.inl rfl) hs)
  · exact hs

theorem KeepsTime.startReleased {s : State} (hq : s.time.opState.quiet = true) (hs : P s) : P s.startReleased := by
  cases hsrc : s.time.source with
  | internal =>
    rw [State.startReleased_internal hsrc]
    exact K.raiseEdge _ _ ⟨.inl hq, nofun⟩ hs
  | follow =>
    rw [State.startReleased_follow hsrc]
    exact K.enter _ _ ⟨hq, rfl, nofun, fun _ => .inl hsrc⟩ hs

theorem KeepsTime.takeHoldChange {s : State} (hn : s.edgeOutstanding = false) (hs : P s) : P s.takeHoldChange := by
  cases ho : s.time.opState with
  | standby => rwa [State.takeHoldChange_of_agree (.inl ho)]
  | syncing =>
    cases hl : s.holdLevel with
    | false => rwa [State.takeHoldChange_of_agree (.inr (.inr ⟨hl, by simp [ho]⟩))]
    | true =>
      rw [State.takeHoldChange_syncing hl ho]
      exact K.enter _ _ ⟨by rw [ho]; rfl, rfl, nofun, fun _ => .inr (.inl ho)⟩ hs
  | run =>
    cases hl : s.holdLevel with
    | false => rwa [State.takeHoldChange_of_agree (.inr (.inr ⟨hl, by simp [ho]⟩))]
    | true =>
      rw [State.takeHoldChange_run hl ho]
      exact K.raiseEdge _ _ ⟨.inr hn, nofun⟩ hs
  | hold o e =>
    cases hl : s.holdLevel with
    | true => rwa [State.takeHoldChange_of_agree (.inr (.inl ⟨hl, o, e, ho⟩))]
    | false =>
      cases o with
      | run =>
        rw [State.takeHoldChange_hold_run hl ho]
        exact K.raiseEdge _ _ ⟨.inr hn, nofun⟩ hs
      | syncing =>
        rw [State.takeHoldChange_hold_syncing hl ho]
        exact K.enter _ _ ⟨by rw [ho]; rfl, rfl, nofun, fun _ => .inr (.inr ⟨e, ho⟩)⟩ hs
      | starting =>
        rw [State.takeHoldChange_hold_starting hl ho]
        exact K.startReleased (by rw [ho]; rfl) hs

/-- An owner of the hold changes: `g` is the HOLD line's filter and `h` the host hold flag after it. -/
theorem KeepsTime.changeHoldOwner (g : Filter) (h : Bool) {s : State} (hs : P s) :
    P (s.changeHoldOwner { s.time with holdLine := g, hostHold := h }) := by
  have hown := K.owners s.time.markFilter g h s hs
  rw [State.changeHoldOwner_eq]
  split
  case isTrue => exact hown
  case isFalse hc =>
    rw [not_or] at hc
    exact K.takeHoldChange (Bool.eq_false_of_not_eq_true hc.2) hown

theorem KeepsTime.takeMark (n : Nat) {s : State} (hs : P s) : P (s.takeMark n) := by
  unfold State.takeMark
  split
  case h_1 ho => exact K.raiseEdge _ _ ⟨.inl (by rw [ho]; rfl), nofun⟩ hs
  case h_2 ho _ =>
    split
    · exact K.congr s _ rfl rfl rfl hs
    case isFalse he =>
      simp only [State.markEarly, Bool.or_eq_true, not_or, Bool.not_eq_true] at he
      exact K.raiseEdge _ _ ⟨.inr he.1, fun _ => .inl ho⟩ hs
  case h_3 => exact hs

theorem KeepsTime.sampleMark (x : Bool) (n : Nat) {s : State} (hs : P s) : P (s.sampleMark x n) := by
  have hown := K.owners (s.time.markFilter.sample x) s.time.holdLine s.time.hostHold s hs
  unfold State.sampleMark
  dsimp only
  split
  · exact K.takeMark n hown
  · exact hown

theorem KeepsTime.start (b : Unit) {s : State} (hs : P s) : P (start b s).1 := by
  unfold Machine.start
  split
  case isTrue ho =>
    have hout : P { s with out := { s.out with sentSinceStart := false } } := K.congr s _ rfl rfl rfl hs
    have hq : s.time.opState.quiet = true := by rw [ho]; rfl
    unfold State.startNow
    dsimp only
    split
    · exact K.enter (.hold .starting s.time.interval) { s with out := { s.out with sentSinceStart := false } }
        ⟨hq, rfl, nofun, by rintro (h | ⟨e, h⟩) <;> cases h⟩ hout
    · exact K.startReleased hq hout
  case isFalse => exact hs

/-- What is kept of the timebase by the work on it is kept by all the work of the part. -/
theorem KeepsTime.keeps : Keeps P where
  queue i s _ _ hs := by
    refine K.presentRequest (K.congr s _ ?_ ?_ ?_ hs) <;> rfl
  hold s _ _ hs := K.claims _ s rfl (.inr nofun) hs
  answer r s _ hs := by
    refine K.releaseTable (K.congr s _ ?_ ?_ ?_ hs) <;> rfl
  openWindow _ _ s _ _ := K.congr s _ (by simp) (by simp) (by simp)
  amendWindow _ _ s _ _ := K.congr s _ (by simp) (by simp) (by simp)
  retireWindow _ _ s _ _ := K.congr s _ (by simp) (by simp) (by simp)
  purge _ s _ _ := K.congr s _ (by simp) (by simp) (by simp)
  readWindow _ s _ _ := K.congr s _ (by simp) (by simp) (by simp)
  reportInflow v s _ _ := K.reportInflow v s
  reportUnits _ s _ _ := K.congr s _ (by simp) (by simp) (by simp)
  setBinding f s _ _ := K.setBinding f s
  setSettings bytes s _ _ := K.setSettings bytes s
  loadRotation _ s _ _ := K.congr s _ (by simp) (by simp) (by simp)
  setLine _ s _ _ := K.congr s _ (by simp) (by simp) (by simp)
  ackLines _ s _ _ := K.congr s _ (by simp) (by simp) (by simp)
  setCondition _ s _ _ := K.congr s _ (by simp) (by simp) (by simp)
  setConditionSource _ s _ _ := K.congr s _ (by simp) (by simp) (by simp)
  start b _ _ _ := K.start b
  stop _ s _ hh hs := by
    unfold Machine.stop
    split
    · exact hs
    · exact K.stop s hh hs
  setHostHold v _ s _ _ := K.changeHoldOwner s.time.holdLine v
  ackCauses _ s _ _ := K.congr s _ (by simp) (by simp) (by simp)
  setAlertMask _ s _ _ := K.congr s _ (by simp) (by simp) (by simp)
  clearTracking _ s _ _ := K.congr s _ (by simp) (by simp) (by simp)
  frameEnd bytes ok s _ hs := by
    unfold State.endSelect State.endFrame State.takeFrame
    split
    · exact hs
    · split
      · exact hs
      · dsimp only
        split
        · exact K.congr s _ rfl rfl rfl hs
        · split
          · exact K.congr s _ rfl rfl rfl hs
          · refine K.presentRequest (K.congr s _ ?_ ?_ ?_ hs) <;> rfl
  timed s _ ht hn := K.raiseEdge _ s ⟨.inr hn, fun _ => .inr (.inl ht)⟩
  lostMark s _ hw hn hs := by
    have hcause : P (s.setCause .markLost) := K.congr s _ rfl rfl rfl hs
    exact K.congr ((s.setCause .markLost).raiseEdge .self) _ rfl rfl rfl
      (K.raiseEdge _ _ ⟨.inr hn, fun _ => .inr (.inr hw)⟩ hcause)
  markBefore s := K.owners (.before true) s.time.holdLine s.time.hostHold s
  lineBefore _ _ s := K.congr s _ rfl rfl rfl
  markSample x n _ _ := K.sampleMark x n
  holdSample x s _ := K.changeHoldOwner (s.time.holdLine.sample x) s.time.hostHold
  edge k s _ := K.edge k s
  frameDone s _ _ := K.congr s _ (by simp) (by simp) (by simp)
  lineSample _ _ s _ := K.congr s _ (by simp) (by simp) (by simp)
  latch m s _ hs := by
    unfold State.takeLatch
    split
    · exact hs
    · split
      · exact K.grantNext _ (K.congr s _ (by simp) (by simp) (by simp) hs)
      · exact hs
  scrubDue _ _ hs := K.presentScrub (K.skipScrub hs)
  scrub s _ _ hs := K.releaseTable (K.congr s _ (by simp) (by simp) (by simp) hs)
  free _ s := K.congr s _ rfl rfl rfl
  toReset _ _ := K.congr State.reset _ rfl rfl rfl K.reset
  fromReset _ _ _ := K.congr State.reset _ rfl rfl rfl K.reset
  pending _ s := K.congr s _ rfl rfl rfl

end

end Sys2Proof.Machine

namespace Sys2Proof.Machine

/-! ## O57: the timer, the window and the edge claim agree with the operating state -/

/-- R63, R65, R68: the timer and the window run by the operating state and the source. -/
def Timebase.agrees (t : Timebase) : Prop :=
  (t.timerRunning = true ↔ t.opState = .run ∧ t.source = .internal) ∧
    (t.windowOpen = true ↔ t.opState = .run ∧ t.source = .follow) ∧ (t.opState.ofFollow → t.source = .follow)

theorem State.timerAgrees_iff (s : State) : s.TimerAgrees ↔ s.time.agrees := Iff.rfl

/-- In RUN the timer or the window runs, by the source. -/
theorem Timebase.agrees_restart {t : Timebase} (h : t.opState = .run) : t.restart.agrees := by
  simp [Timebase.agrees, Timebase.restart, OpState.ofFollow, h]

/-- Outside RUN neither runs. -/
theorem Timebase.agrees_of_not_run {t : Timebase} (h : t.opState ≠ .run) (htimer : t.timerRunning = false)
    (hwindow : t.windowOpen = false) (hfollow : t.opState.ofFollow → t.source = .follow) : t.agrees := by
  refine ⟨?_, ?_, hfollow⟩
  · simp [htimer, h]
  · simp [hwindow, h]

theorem Timebase.agrees.stopped {t : Timebase} (ht : t.agrees) (h : t.opState ≠ .run) :
    t.timerRunning = false ∧ t.windowOpen = false := by
  obtain ⟨htimer, hwindow, -⟩ := ht
  exact ⟨Bool.eq_false_of_not_eq_true fun hr => h (htimer.mp hr).1,
    Bool.eq_false_of_not_eq_true fun hr => h (hwindow.mp hr).1⟩

theorem Timebase.agrees_atEdge {k : EdgeKind} {t : Timebase} (h : k.staysInRun = true → t.opState = .run) :
    (t.atEdge k).agrees := by
  cases k with
  | start => exact Timebase.agrees_restart rfl
  | timed => exact Timebase.agrees_restart (h rfl)
  | mark => exact Timebase.agrees_restart (h rfl)
  | self => exact Timebase.agrees_restart (h rfl)
  | holdEntry => exact Timebase.agrees_of_not_run nofun rfl rfl (by rintro (h | ⟨e, h⟩) <;> cases h)
  | holdExit => exact Timebase.agrees_restart rfl

/-- After an edge the part is in RUN or in a hold of origin RUN (R60, R71). -/
theorem Timebase.atEdge_not_quiet {k : EdgeKind} {t : Timebase} (h : k.staysInRun = true → t.opState = .run) :
    (t.atEdge k).opState.quiet = false := by
  cases k with
  | start => rfl
  | timed => exact congrArg OpState.quiet (h rfl)
  | mark => exact congrArg OpState.quiet (h rfl)
  | self => exact congrArg OpState.quiet (h rfl)
  | holdEntry => rfl
  | holdExit => rfl

theorem OpState.ne_run_of_quiet {o : OpState} (h : o.quiet = true) : o ≠ .run := by
  rintro rfl
  cases h

/-- An edge that stays in RUN is due in RUN alone, where the timer and the window agree. -/
theorem State.edgeDue.inRun {k : EdgeKind} {s : State} (hk : s.edgeDue k) (hs : s.TimerAgrees) :
    k.staysInRun = true → s.time.opState = .run := fun hstay => by
  rcases hk.2 hstay with h | h | h
  · exact h
  · exact (hs.1.mp h).1
  · exact (hs.2.1.mp h).1

/-! ### The edge claim (R62) -/

theorem State.edgeOutstanding_congr {s t : State} (h : t.arb = s.arb) : t.edgeOutstanding = s.edgeOutstanding := by
  simp only [State.edgeOutstanding, h]

theorem State.oneEdge_congr {s t : State} (ho : t.time.opState = s.time.opState) (ha : t.arb = s.arb) (h : s.OneEdge) :
    t.OneEdge := by
  simpa only [State.OneEdge, ho, ha, State.edgeOutstanding_congr ha] using h

/-- With no edge outstanding the law holds in every state. -/
theorem State.oneEdge_of_none {s : State} (h : s.edgeOutstanding = false) : s.OneEdge :=
  ⟨fun _ => (State.edgeOutstanding_eq_false.mp h).1, fun _ => h⟩

/-- An edge claim may wait in a state that raises edges, where none holds the table. -/
theorem State.oneEdge_of_waiting {s : State} (hq : s.time.opState.quiet = false) (hh : ∀ k, s.arb.holder ≠ .edge k) :
    s.OneEdge :=
  ⟨fun ⟨k, hk⟩ => absurd hk (hh k), fun h => absurd (hq.symm.trans h) Bool.false_ne_true⟩

/-- An edge claim may hold the table in a state that raises edges, where none waits. -/
theorem State.oneEdge_of_held {s : State} (hq : s.time.opState.quiet = false) (hw : s.arb.waitEdge = none) :
    s.OneEdge :=
  ⟨fun _ => hw, fun h => absurd (hq.symm.trans h) Bool.false_ne_true⟩

theorem State.edgeDue.notOutstanding {k : EdgeKind} {s : State} (hk : s.edgeDue k) (hs : s.OneEdge) :
    s.edgeOutstanding = false := hk.1.elim hs.2 id

theorem State.oneEdge_raiseEdge {k : EdgeKind} {s : State} (hk : k.staysInRun = true → s.time.opState = .run)
    (hn : s.edgeOutstanding = false) : (s.raiseEdge k).OneEdge := by
  obtain ⟨hw, hh⟩ := State.edgeOutstanding_eq_false.mp hn
  have hq := Timebase.atEdge_not_quiet hk
  rw [State.raiseEdge_eq]
  unfold State.claimed
  split
  · exact State.oneEdge_of_held hq hw
  · exact State.oneEdge_of_waiting hq hh

theorem State.oneEdge_grantNext {s : State} (hs : s.OneEdge) : s.grantNext.OneEdge := by
  rcases s.grantNext_cases with h | ⟨hh, ⟨k, hk, h⟩ | ⟨a, hw, ha, hah, h⟩⟩
  · rwa [h]
  · rw [h]
    refine State.oneEdge_of_held ?_ rfl
    refine Bool.eq_false_of_not_eq_true fun hq => ?_
    rw [(State.edgeOutstanding_eq_false.mp (hs.2 hq)).1] at hk
    cases hk
  · rw [h]
    exact State.oneEdge_of_none (State.edgeOutstanding_eq_false.mpr ⟨ha, hah⟩)

/-- The end of a granted edge: the compare may raise a hold edge, which the release grants (R62, R74). -/
theorem State.oneEdge_edge {k : EdgeKind} {s : State} (hh : s.arb.holder = .edge k) (hs : s.OneEdge) :
    (s.edgeWork k).compareHold.releaseTable.OneEdge := by
  have hwait : s.arb.waitEdge = none := hs.1 ⟨k, hh⟩
  refine State.oneEdge_grantNext ?_
  rcases (s.edgeWork k).compareHold_cases with ⟨-, -, h⟩ | ⟨e, -, -, h⟩ | h
  · rw [h, State.raiseEdge_eq]
    exact State.oneEdge_of_waiting rfl nofun
  · rw [h, State.raiseEdge_eq]
    exact State.oneEdge_of_waiting rfl nofun
  · rw [h]
    exact State.oneEdge_of_none (State.edgeOutstanding_eq_false.mpr ⟨by simpa using hwait, nofun⟩)

theorem Timebase.agrees_edge {k : EdgeKind} {s : State} (hs : s.TimerAgrees) :
    (s.edgeWork k).compareHold.releaseTable.TimerAgrees := by
  have hwork : (s.edgeWork k).TimerAgrees := by
    rw [State.timerAgrees_iff, State.edgeWork_time]
    exact hs
  rw [State.timerAgrees_iff, State.releaseTable_time]
  rcases (s.edgeWork k).compareHold_cases with ⟨-, -, h⟩ | ⟨e, -, -, h⟩ | h
  · rw [h, State.raiseEdge_eq]
    exact Timebase.agrees_atEdge nofun
  · rw [h, State.raiseEdge_eq]
    exact Timebase.agrees_atEdge nofun
  · rwa [h]

/-! ### What the settings make of the timebase -/

theorem itemValue_eq_none {st : Setting} {items : List (Setting × Nat)} :
    itemValue st items = none ↔ ∀ e ∈ items, e.1 ≠ st := by
  simp [itemValue]

theorem namesTimebase_eq_false {items : List (Setting × Nat)} :
    namesTimebase items = false ↔ itemValue .length items = none ∧ itemValue .timebase items = none := by
  simp only [namesTimebase, itemValue_eq_none, List.any_eq_false, Bool.or_eq_true, decide_eq_true_eq, not_or, ne_eq]
  exact forall₂_and

/-- The timebase settings are left as they are where no item names one. -/
theorem Timebase.setItems_of_unnamed {items : List (Setting × Nat)} (h : namesTimebase items = false) (t : Timebase) :
    t.setItems items = t := by
  obtain ⟨hlength, htimebase⟩ := namesTimebase_eq_false.mp h
  simp [Timebase.setItems, hlength, htimebase]

theorem State.setItems_time (items : List (Setting × Nat)) (s : State) :
    (s.setItems items).time = s.time.setItems items := by
  simp [State.setItems]

/-- SET_SETTINGS changes nothing, or sets the items: any in STANDBY, and elsewhere those of no timebase setting (R187). -/
theorem setSettings_cases (bytes : List Byte) (s : State) :
    (setSettings bytes s).1 = s ∨
      ∃ items, checkSettings bytes = some items ∧ (s.time.opState = .standby ∨ namesTimebase items = false) ∧
        (setSettings bytes s).1 = s.setItems items := by
  unfold setSettings
  split
  case h_1 => exact .inl rfl
  case h_2 items hitems =>
    split
    case isTrue => exact .inl rfl
    case isFalse hmode =>
      refine .inr ⟨items, hitems, ?_, rfl⟩
      rw [not_and_or, not_not, Bool.not_eq_true] at hmode
      exact hmode.symm

/-- The scrubber item moves no claim but the scrubber's (R173). -/
theorem State.setItems_claims (items : List (Setting × Nat)) (s : State) :
    (s.setItems items).arb.holder = s.arb.holder ∧ (s.setItems items).arb.waitEdge = s.arb.waitEdge := by
  have harb (u : State) : (u.setFlowItems items).arb = u.arb := by simp
  unfold State.setItems State.setScrubberItem State.setScrubber
  rw [harb]
  repeat' split
  all_goals exact ⟨rfl, rfl⟩

/-! ### The laws are kept -/

/-- What makes every step keep both laws: the timer agrees, and, where `p` holds, so do the edge claims. -/
def State.EdgesAgree (p : Prop) (s : State) : Prop := s.TimerAgrees ∧ (p → s.OneEdge)

theorem State.edgesAgree_congr {p : Prop} {s t : State} (ht : t.time = s.time) (ha : t.arb = s.arb)
    (h : s.EdgesAgree p) : t.EdgesAgree p :=
  ⟨by rw [State.timerAgrees_iff, ht]; exact h.1, fun hp => State.oneEdge_congr (by rw [ht]) ha (h.2 hp)⟩

theorem State.edgesAgree_setItems {p : Prop} {items : List (Setting × Nat)} {s : State} (h : s.EdgesAgree p)
    (hi : s.time.opState = .standby ∨ namesTimebase items = false) : (s.setItems items).EdgesAgree p := by
  have hstate : (s.setItems items).time.opState = s.time.opState := by rw [State.setItems_time]; rfl
  obtain ⟨hholder, hwait⟩ := s.setItems_claims items
  refine ⟨?_, fun hp => ?_⟩
  · rw [State.timerAgrees_iff, State.setItems_time]
    rcases hi with ho | hn
    · obtain ⟨htimer, hwindow⟩ := Timebase.agrees.stopped h.1 (by rw [ho]; nofun)
      refine Timebase.agrees_of_not_run (fun hr => ?_) htimer hwindow ?_
      · exact absurd (ho.symm.trans hr) nofun
      · rintro (hr | ⟨e, hr⟩) <;> exact absurd (ho.symm.trans hr) nofun
    · rw [Timebase.setItems_of_unnamed hn]
      exact h.1
  · simpa only [State.OneEdge, State.edgeOutstanding, hstate, hholder, hwait] using h.2 hp

theorem keepsTime_edgesAgree (p : Prop) : KeepsTime (State.EdgesAgree p) where
  congr _ _ ht ha _ := State.edgesAgree_congr ht ha
  reset := by
    obtain ⟨-, -, -, -, -, -, htimer, hedge, -⟩ := reset_sound
    exact ⟨htimer, fun _ => hedge⟩
  owners _ _ _ _ h := ⟨h.1, fun hp => State.oneEdge_congr rfl rfl (h.2 hp)⟩
  claims a s hw hh h := by
    refine ⟨h.1, fun hp => ⟨fun ⟨k, hk⟩ => ?_, fun hq => ?_⟩⟩
    · rcases hh with hh | hh
      · exact hw.trans ((h.2 hp).1 ⟨k, hh ▸ hk⟩)
      · exact absurd hk (hh k)
    · obtain ⟨hnone, hholder⟩ := State.edgeOutstanding_eq_false.mp ((h.2 hp).2 hq)
      refine State.edgeOutstanding_eq_false.mpr ⟨hw.trans hnone, ?_⟩
      exact hh.elim (fun hh k hk => hholder k (hh ▸ hk)) id
  grantNext s h := by
    refine ⟨?_, fun hp => State.oneEdge_grantNext (h.2 hp)⟩
    rw [State.timerAgrees_iff, State.grantNext_time]
    exact h.1
  raiseEdge k s hk h := by
    refine ⟨?_, fun hp => State.oneEdge_raiseEdge (hk.inRun h.1) (hk.notOutstanding (h.2 hp))⟩
    rw [State.timerAgrees_iff, State.raiseEdge_eq]
    exact Timebase.agrees_atEdge (hk.inRun h.1)
  enter o s ho h := by
    obtain ⟨hfrom, hto, -, hfollow⟩ := ho
    obtain ⟨-, -, hsource⟩ := h.1
    obtain ⟨htimer, hwindow⟩ := Timebase.agrees.stopped h.1 (OpState.ne_run_of_quiet hfrom)
    refine ⟨Timebase.agrees_of_not_run (OpState.ne_run_of_quiet hto) htimer hwindow fun hf => ?_, fun hp => ?_⟩
    · exact (hfollow hf).elim id hsource
    · exact State.oneEdge_of_none ((h.2 hp).2 hfrom)
  reportInflow v s := State.edgesAgree_congr (by simp) (by simp)
  setBinding f s := State.edgesAgree_congr (by simp) (by simp)
  setSettings bytes s h := by
    rcases setSettings_cases bytes s with hsame | ⟨items, -, hi, hset⟩
    · rwa [hsame]
    · rw [hset]
      exact State.edgesAgree_setItems h hi
  stop s hh _ := by
    refine ⟨Timebase.agrees_of_not_run nofun rfl rfl (by rintro (h | ⟨e, h⟩) <;> cases h), fun _ => ?_⟩
    exact State.oneEdge_of_none (State.edgeOutstanding_eq_false.mpr ⟨rfl, fun k hk => nomatch hh.symm.trans hk⟩)
  edge k s hh h := ⟨Timebase.agrees_edge h.1, fun hp => State.oneEdge_edge hh (h.2 hp)⟩

/-- Settles O57: both laws are kept together, the edge claims' where it holds. -/
theorem timerAndEdgeClaimAgreementIsKept : Obligations.TimerAndEdgeClaimAgreementIsKept := fun s _ hs h =>
  (keepsTime_edgesAgree s.OneEdge).keeps.step ⟨hs, id⟩ h

end Sys2Proof.Machine

namespace Sys2Proof.Machine

/-! ## O58: the settings stay in range -/

/-- R59, R97, R101 to R104: the settings, the setpoints and the inflow are in range. -/
def Apportioner.inRange (a : Apportioner) : Prop :=
  a.live.inRange ∧ a.staged.inRange a.live ∧ (∀ p : PassId, a.bindings[p].within a.live.passes[p].max) ∧
    atMost Config.maxInflow a.heldInflow ∧ a.age ≤ Config.maxAge

/-- R102, R105: nothing is staged. -/
def Apportioner.settled (a : Apportioner) : Prop := a.staged = .none ∧ ∀ p : PassId, a.bindings[p].staged = none

/-- R59: the interval length is in range. -/
def Timebase.lengthInRange (t : Timebase) : Prop := 1 ≤ t.lengthMin ∧ t.lengthMin ≤ Config.maxLength

theorem State.settingsInRange_iff {s : State} :
    s.SettingsInRange ↔
      s.flow.inRange ∧ s.time.lengthInRange ∧ (s.time.opState = .standby → s.flow.settled) := by
  simp only [State.SettingsInRange, Apportioner.inRange, Timebase.lengthInRange, Apportioner.settled, and_assoc]

/-- The timebase keeps its length, and enters STANDBY from nowhere else. -/
def Timebase.keepsSettings (t t' : Timebase) : Prop :=
  t'.lengthMin = t.lengthMin ∧ (t'.opState = .standby → t.opState = .standby)

theorem Timebase.keepsSettings_rfl (t : Timebase) : t.keepsSettings t := ⟨rfl, id⟩

theorem Timebase.keepsSettings_atEdge (k : EdgeKind) (t : Timebase) : t.keepsSettings (t.atEdge k) := by
  cases k with
  | timed | mark | self => exact ⟨rfl, id⟩
  | start | holdEntry | holdExit => exact ⟨rfl, nofun⟩

theorem State.keepsSettings_compareHold (s : State) : s.time.keepsSettings s.compareHold.time := by
  rcases s.compareHold_cases with ⟨-, -, h⟩ | ⟨e, -, -, h⟩ | h
  · rw [h, State.raiseEdge_eq]
    exact s.time.keepsSettings_atEdge _
  · rw [h, State.raiseEdge_eq]
    exact s.time.keepsSettings_atEdge _
  · rw [h]
    exact s.time.keepsSettings_rfl

theorem State.settingsInRange_congr {s t : State} (hf : t.flow = s.flow) (ht : s.time.keepsSettings t.time)
    (h : s.SettingsInRange) : t.SettingsInRange := by
  rw [State.settingsInRange_iff] at h ⊢
  obtain ⟨hflow, hlength, hsettled⟩ := h
  refine ⟨hf ▸ hflow, ?_, fun ho => hf ▸ hsettled (ht.2 ho)⟩
  rw [Timebase.lengthInRange, ht.1]
  exact hlength

/-! ### The staged settings become live (R102, R103) -/

theorem StagedSettings.inRange_none (live : FlowSettings) : StagedSettings.none.inRange live := by
  refine ⟨atMost_none _, atMost_none _, nofun, fun p => ?_, fun u => ?_, ?_⟩
  · rw [show StagedSettings.none.passes[p] = ⟨.none, .none, .none, .none⟩ by simp [StagedSettings.none]]
    exact ⟨atMost_none _, atMost_none _, atMost_none _, fun _ => atMost_none _⟩
  · rw [show StagedSettings.none.ratings[u] = Option.none by simp [StagedSettings.none]]
    exact atMost_none _
  · rw [show StagedSettings.none.classMap[(0 : ClassId)] = Option.none by decide]
    nofun

/-- A value within the old maximum is, once cut, within the maximum that is then live. -/
theorem cutTo_le {o : Option Nat} {m v : Nat} (h : o = none → v ≤ m) : cutTo o v ≤ o.getD m := by
  cases o with
  | none => exact h rfl
  | some n => exact min_le_right _ _

theorem FlowSettings.inRange_of_taken {a b : Apportioner} (h : settingsTaken a b) (hlive : a.live.inRange)
    (hstaged : a.staged.inRange a.live) : b.live.inRange := by
  obtain ⟨-, hresidual, hfallback, hstale, -, hrating, hclass, hpass⟩ := h
  obtain ⟨lresidual, lfallback, lstale, lpass, lrating, lclass⟩ := hlive
  obtain ⟨sresidual, sfallback, sstale, spass, srating, sclass⟩ := hstaged
  refine ⟨?_, ?_, ?_, fun p => ?_, fun u => ?_, ?_⟩
  · rw [hresidual]
    exact getD_le sresidual lresidual
  · rw [hfallback]
    exact getD_le sfallback lfallback
  · rw [hstale]
    cases hs : a.staged.staleLimit with
    | none => exact lstale
    | some x => exact sstale x hs
  · obtain ⟨hmax, hup, hdown, hsafe⟩ := hpass p
    obtain ⟨lmax, lup, ldown, lsafe⟩ := lpass p
    obtain ⟨smax, sup, sdown, ssafe⟩ := spass p
    refine ⟨?_, ?_, ?_, ?_⟩
    · rw [hmax]
      exact getD_le smax lmax
    · rw [hup]
      exact getD_le sup lup
    · rw [hdown]
      exact getD_le sdown ldown
    · rw [hsafe, hmax]
      exact cutTo_le fun hm => getD_le (ssafe hm) lsafe
  · rw [hrating]
    exact getD_le (srating u) (lrating u)
  · rw [hclass]
    cases hs : a.staged.classMap[(0 : ClassId)] with
    | none => exact lclass
    | some x => exact sclass x hs

theorem PassBinding.within_applyStaged {a : Apportioner} {p : PassId} (h : a.bindings[p].within a.live.passes[p].max) :
    a.applyStaged.bindings[p].within a.applyStaged.live.passes[p].max := by
  obtain ⟨-, -, -, -, -, -, -, hpass⟩ := a.applyStaged_settingsTaken
  rw [Apportioner.applyStaged_binding, (hpass p).1]
  refine ⟨cutTo_le fun _ => h.1, fun k v hv => ?_⟩
  obtain ⟨⟨k', v'⟩, hstaged, heq⟩ := Option.map_eq_some_iff.mp hv
  cases heq
  exact cutTo_le fun _ => h.2 k' v' hstaged

theorem Apportioner.inRange_applyStaged {a : Apportioner} (h : a.inRange) : a.applyStaged.inRange := by
  obtain ⟨hlive, hstaged, hbinding, hinflow, hage⟩ := h
  exact ⟨FlowSettings.inRange_of_taken a.applyStaged_settingsTaken hlive hstaged, StagedSettings.inRange_none _,
    fun p => PassBinding.within_applyStaged (hbinding p), hinflow, hage⟩

/-! ### The bindings (R105, R106) -/

theorem PassBinding.within_takeStaged {m : Nat} {b : PassBinding} (h : b.within m) : b.takeStaged.within m := by
  unfold PassBinding.takeStaged
  split
  · exact ⟨h.2 _ _ ‹_›, nofun⟩
  · exact h

theorem PassBinding.within_settle {m : Nat} {b : PassBinding} (h : b.within m) : b.settle.within m := by
  unfold PassBinding.settle
  split
  · exact PassBinding.within_takeStaged h
  · split <;> exact h

theorem PassBinding.takeStaged_staged (b : PassBinding) : b.takeStaged.staged = none := by
  unfold PassBinding.takeStaged
  split <;> simp_all

theorem PassBinding.settle_staged (b : PassBinding) : b.settle.staged = none := by
  unfold PassBinding.settle
  split
  · exact b.takeStaged_staged
  · split <;> assumption

theorem Apportioner.takeBindings_binding (a : Apportioner) (p : PassId) :
    a.takeBindings.bindings[p] = a.bindings[p].takeStaged := by
  simp [Apportioner.takeBindings]

/-- R102, R105: STOP leaves the settings in range with nothing staged. -/
theorem Apportioner.inRange_stop {a : Apportioner} (h : a.inRange) :
    a.applyStaged.takeBindings.inRange ∧ a.applyStaged.takeBindings.settled := by
  obtain ⟨hlive, hstaged, hbinding, hinflow, hage⟩ := Apportioner.inRange_applyStaged h
  refine ⟨⟨hlive, hstaged, fun p => ?_, hinflow, hage⟩, rfl, fun p => ?_⟩
  · rw [Apportioner.takeBindings_binding]
    exact PassBinding.within_takeStaged (hbinding p)
  · rw [Apportioner.takeBindings_binding]
    exact PassBinding.takeStaged_staged _

/-- R99, R102, R106: so does a grant. -/
theorem Apportioner.inRange_atGrant {a : Apportioner} (h : a.inRange) : a.atGrant.inRange ∧ a.atGrant.settled := by
  obtain ⟨hlive, hstaged, hbinding, hinflow, -⟩ := Apportioner.inRange_applyStaged h
  refine ⟨⟨hlive, hstaged, fun p => ?_, hinflow, ?_⟩, rfl, fun p => ?_⟩
  · rw [Apportioner.atGrant_binding]
    exact PassBinding.within_settle (hbinding p)
  · rw [Apportioner.atGrant_age]
    split
    · exact Nat.zero_le _
    · exact min_le_right _ _
  · rw [Apportioner.atGrant_binding]
    exact PassBinding.settle_staged _

/-- R110, R116: the computation of an edge marks the pulses alone among the bindings. -/
theorem Apportioner.inRange_take (r : IntervalRecord) {a : Apportioner} (h : a.inRange ∧ a.settled) :
    (a.take r).inRange ∧ (a.take r).settled := by
  obtain ⟨⟨hlive, hstaged, hbinding, hinflow, hage⟩, hnone, hunstaged⟩ := h
  refine ⟨⟨hlive, hstaged, fun p => ?_, hinflow, hage⟩, hnone, fun p => ?_⟩
  · rw [Apportioner.take_binding]
    split <;> exact hbinding p
  · rw [Apportioner.take_binding]
    split <;> exact hunstaged p

/-! ### The items of SET_SETTINGS (R59, R101 to R103) -/

/-- The flow settings of a request are staged as R102 and R103 say. -/
theorem settingsStaged_stageItems (live : FlowSettings) (items : List (Setting × Nat)) (st : StagedSettings) :
    settingsStaged live items st (stageItems live items st) := by
  refine ⟨rfl, rfl, rfl, rfl, fun u => ?_, fun c => ?_, fun p => ?_⟩ <;> simp [stageItems, safeLimit]

theorem StagedSettings.inRange_of_staged {bytes : List Byte} {items : List (Setting × Nat)} {live : FlowSettings}
    {a b : StagedSettings} (hitems : checkSettings bytes = some items) (h : settingsStaged live items a b)
    (ha : a.inRange live) : b.inRange live := by
  obtain ⟨hresidual, hfallback, hstale, -, hrating, hclass, hpass⟩ := h
  obtain ⟨aresidual, afallback, astale, apass, arating, aclass⟩ := ha
  have hitem {st : Setting} {v : Nat} (hv : itemValue st items = some v) : settingInRange st v = true :=
    itemValue_inRange hitems hv
  refine ⟨?_, ?_, ?_, fun p => ?_, fun u => ?_, ?_⟩
  · rw [hresidual]
    exact atMost_or (fun v hv => of_decide_eq_true (hitem hv)) aresidual
  · rw [hfallback]
    exact atMost_or (fun v hv => of_decide_eq_true (hitem hv)) afallback
  · rw [hstale]
    cases hv : itemValue .staleLimit items with
    | none => exact astale
    | some v =>
      rintro _ ⟨⟩
      exact of_decide_eq_true (hitem hv)
  · obtain ⟨hmax, hup, hdown, hsafe⟩ := hpass p
    obtain ⟨amax, aup, adown, asafe⟩ := apass p
    rw [hmax, hup, hdown, hsafe]
    refine ⟨atMost_or (fun v hv => of_decide_eq_true (hitem hv)) amax,
      atMost_or (fun v hv => of_decide_eq_true (hitem hv)) aup,
      atMost_or (fun v hv => of_decide_eq_true (hitem hv)) adown, fun hnone => ?_⟩
    obtain ⟨hunnamed, hunstaged⟩ := Option.or_eq_none_iff.mp hnone
    rw [hunnamed]
    exact atMost_or (atMost_map_min le_rfl _) (asafe hunstaged)
  · rw [hrating]
    exact atMost_or (fun v hv => of_decide_eq_true (hitem hv)) (arating u)
  · rw [hclass]
    cases hv : itemValue (.classMap 0) items with
    | none => exact aclass
    | some v =>
      have hzero : v ≠ 1 := by
        have hr := hitem hv
        rintro rfl
        cases hr
      rintro _ ⟨⟩
      exact if_neg hzero

/-- Written live, a staged record is applied with the staged record in place left as it is. -/
theorem Apportioner.writeSettings_eq (st : StagedSettings) (a : Apportioner) :
    a.writeSettings st = { Apportioner.applyStaged { a with staged := st } with staged := a.staged } := rfl

theorem State.setItems_flow (items : List (Setting × Nat)) (s : State) :
    (s.setItems items).flow =
      if s.time.opState = .standby then s.flow.writeSettings (stageItems s.flow.live items .none)
      else { s.flow with staged := stageItems s.flow.live items s.flow.staged } := by
  unfold State.setItems State.setFlowItems
  simp only [State.setScrubberItem_frame, Timebase.setItems]
  split <;> rfl

/-- In STANDBY the flow settings of a request are written live, with nothing left staged. -/
theorem Apportioner.inRange_writeSettings {st : StagedSettings} {a : Apportioner} (h : a.inRange) (ha : a.settled)
    (hst : st.inRange a.live) : (a.writeSettings st).inRange ∧ (a.writeSettings st).settled := by
  obtain ⟨hlive, -, hbinding, hinflow, hage⟩ := h
  obtain ⟨hnone, hunstaged⟩ := ha
  have hgiven : Apportioner.inRange { a with staged := st } := ⟨hlive, hst, hbinding, hinflow, hage⟩
  obtain ⟨wlive, -, wbinding, winflow, wage⟩ := Apportioner.inRange_applyStaged hgiven
  rw [Apportioner.writeSettings_eq]
  refine ⟨⟨wlive, ?_, wbinding, winflow, wage⟩, hnone, fun p => ?_⟩
  · show a.staged.inRange _
    rw [hnone]
    exact StagedSettings.inRange_none _
  · show (Apportioner.applyStaged { a with staged := st }).bindings[p].staged = none
    rw [Apportioner.applyStaged_binding, hunstaged p]
    rfl

theorem State.settingsInRange_setItems {bytes : List Byte} {items : List (Setting × Nat)} {s : State}
    (hitems : checkSettings bytes = some items) (h : s.SettingsInRange) : (s.setItems items).SettingsInRange := by
  rw [State.settingsInRange_iff] at h ⊢
  obtain ⟨hflow, hlength, hsettled⟩ := h
  have htime : (s.setItems items).time.opState = s.time.opState := by rw [State.setItems_time]; rfl
  have hstaged {st : StagedSettings} (hst : st.inRange s.flow.live) : (stageItems s.flow.live items st).inRange s.flow.live :=
    StagedSettings.inRange_of_staged hitems (settingsStaged_stageItems _ _ _) hst
  have hlen : (s.setItems items).time.lengthInRange := by
    rw [State.setItems_time]
    cases hv : itemValue .length items with
    | none => simpa [Timebase.lengthInRange, Timebase.setItems, hv] using hlength
    | some v =>
      have hr : 1 ≤ v ∧ v ≤ Config.maxLength := of_decide_eq_true (itemValue_inRange hitems hv)
      simpa [Timebase.lengthInRange, Timebase.setItems, hv] using hr
  rw [htime, State.setItems_flow]
  by_cases ho : s.time.opState = .standby
  · obtain ⟨hrange, hset⟩ := Apportioner.inRange_writeSettings hflow (hsettled ho) (hstaged (StagedSettings.inRange_none _))
    rw [if_pos ho]
    exact ⟨hrange, hlen, fun _ => hset⟩
  · rw [if_neg ho]
    obtain ⟨hlive, hold, hbinding, hinflow, hage⟩ := hflow
    exact ⟨⟨hlive, hstaged hold, hbinding, hinflow, hage⟩, hlen, fun h => absurd h ho⟩

/-! ### SET_BINDING (R105) -/

theorem PassBinding.within_given {standby : Bool} {k : Binding} {v m : Nat} {b : PassBinding} (hv : v ≤ m)
    (h : b.within m) : (b.given standby k v).within m := by
  unfold PassBinding.given
  split
  · exact ⟨hv, h.2⟩
  · refine ⟨h.1, ?_⟩
    rintro _ _ ⟨⟩
    exact hv

theorem State.settingsInRange_setBinding (f : BindingFields) {s : State} (h : s.SettingsInRange) :
    (setBinding f s).1.SettingsInRange := by
  have hs := h
  rw [State.settingsInRange_iff] at h
  obtain ⟨⟨hlive, hstaged, hbinding, hinflow, hage⟩, hlength, hsettled⟩ := h
  unfold Machine.setBinding
  split
  case h_2 => exact hs
  case h_1 p k _ _ =>
    have hget (q : PassId) (b : PassBinding) :
        (s.flow.bindings.set p b)[q] = if p = q then b else s.flow.bindings[q] := by
      simp only [Fin.getElem_fin, Vector.getElem_set, Fin.ext_iff]
    rw [State.settingsInRange_iff]
    refine ⟨⟨hlive, hstaged, fun q => ?_, hinflow, hage⟩, hlength, fun ho => ⟨(hsettled ho).1, fun q => ?_⟩⟩
    · dsimp only
      rw [hget]
      split
      · subst_vars
        exact PassBinding.within_given (min_le_right _ _) (hbinding _)
      · exact hbinding q
    · dsimp only
      rw [hget]
      split
      · simpa [PassBinding.given, show s.time.opState = .standby from ho] using (hsettled ho).2 p
      · exact (hsettled ho).2 q

/-! ### The ranges are kept -/

theorem keepsTime_settingsInRange : KeepsTime State.SettingsInRange where
  congr s t ht _ hf := State.settingsInRange_congr hf (by rw [ht]; exact s.time.keepsSettings_rfl)
  reset := reset_settingsInRange
  owners _ _ _ _ := State.settingsInRange_congr rfl ⟨rfl, id⟩
  claims _ _ _ _ := State.settingsInRange_congr rfl ⟨rfl, id⟩
  grantNext s := State.settingsInRange_congr (by simp) (by simpa using s.time.keepsSettings_rfl)
  raiseEdge k s _ := by
    rw [State.raiseEdge_eq]
    exact State.settingsInRange_congr rfl (s.time.keepsSettings_atEdge k)
  enter _ _ ho := by
    obtain ⟨-, -, hrunning, -⟩ := ho
    exact State.settingsInRange_congr rfl ⟨rfl, fun h => absurd h hrunning⟩
  reportInflow v s h := by
    rw [State.settingsInRange_iff] at h ⊢
    obtain ⟨⟨hlive, hstaged, hbinding, -, hage⟩, hrest⟩ := h
    refine ⟨⟨hlive, hstaged, hbinding, ?_, hage⟩, hrest⟩
    rintro _ ⟨⟩
    exact min_le_right _ _
  setBinding f _ := State.settingsInRange_setBinding f
  setSettings bytes s h := by
    rcases setSettings_cases bytes s with hsame | ⟨items, hitems, -, hset⟩
    · rwa [hsame]
    · rw [hset]
      exact State.settingsInRange_setItems hitems h
  stop s _ h := by
    rw [State.settingsInRange_iff] at h ⊢
    obtain ⟨hrange, hset⟩ := Apportioner.inRange_stop h.1
    exact ⟨hrange, h.2.1, fun _ => hset⟩
  edge k s _ h := by
    rw [State.settingsInRange_iff] at h
    obtain ⟨hrange, hset⟩ := Apportioner.inRange_take (s.edgeRecord k) (Apportioner.inRange_atGrant h.1)
    have hwork : (s.edgeWork k).SettingsInRange := by
      rw [State.settingsInRange_iff, State.edgeWork_flow, State.edgeWork_time]
      exact ⟨hrange, h.2.1, fun _ => hset⟩
    exact State.settingsInRange_congr (by simp) (by simpa using (s.edgeWork k).keepsSettings_compareHold) hwork

/-- Settles O58: the ranges, and that nothing is staged in STANDBY, are kept together. -/
theorem settingsStayInRange : Obligations.SettingsStayInRange := fun _ _ hs h =>
  keepsTime_settingsInRange.keeps.step hs h

end Sys2Proof.Machine

namespace Sys2Proof.Machine

/-! ## O39: the expiries -/

/-- A cause that is set with its enable on asserts ALERT (R180). -/
theorem State.alertLevel_of_cause {c : Sticky} {s : State} (h : s.hasCause c = true)
    (he : s.causes.enable[stickyIndex c] = true) : s.alertLevel = true := by
  have hsticky : s.causes.enabledSticky = true := (CauseUnit.enabledSticky_iff _).mpr ⟨c, h, he⟩
  simp [State.alertLevel, hsticky]

/-- The cause unit after the cause `c` alone has been set and ALERT driven (R176, R180). -/
def CauseUnit.raised (c : Sticky) (u u' : CauseUnit) : Prop :=
  u'.sticky = u.sticky.set (stickyIndex c) true ∧ u'.recordQuarantined = u.recordQuarantined ∧ u'.enable = u.enable ∧
    u'.lineEnable = u.lineEnable ∧ (u.enable[stickyIndex c] = true → u'.alert = true)

theorem State.raised_setCause (c : Sticky) (s : State) : s.causes.raised c (s.setCause c).driveAlert.causes :=
  ⟨rfl, rfl, rfl, rfl, fun he => State.alertLevel_of_cause (c := c) (s := s.setCause c) (by simp) he⟩

/-- Settles O39: an expiry that is due raises its edge, and one that is not changes nothing. -/
theorem expiriesRaiseTimedAndSelfEdges : Obligations.ExpiriesRaiseTimedAndSelfEdges := by
  intro s h0
  rw [exec_intervalTimerExpiry, exec_lostMarkLimitExpiry, outsideReset_act h0, outsideReset_act h0]
  refine ⟨fun ht hn => ?_, fun hw hn => ?_, fun h => ?_, fun h => ?_⟩
  · rw [if_pos (by simp [ht, hn]), State.raiseEdge_eq]
    rfl
  · rw [if_pos (by simp [hw, hn]), State.raiseEdge_eq]
    exact ⟨(s.setCause .markLost).driveAlert.causes, rfl, s.raised_setCause .markLost⟩
  · rw [if_neg]
    rcases h with h | h <;> simp [h]
  · rw [if_neg]
    rcases h with h | h <;> simp [h]

/-! ## O40: the mark -/

/-- The mark is the rise of the filtered level (R64). -/
theorem State.sampleMark_of_rise {x : Bool} {n : Nat} {s : State} (h : s.time.markFilter.rises x = true) :
    s.sampleMark x n = State.takeMark n { s with time := { s.time with markFilter := s.time.markFilter.sample x } } := by
  simp only [State.sampleMark, h, if_true]

theorem State.sampleMark_of_no_rise {x : Bool} {n : Nat} {s : State} (h : s.time.markFilter.rises x = false) :
    s.sampleMark x n = { s with time := { s.time with markFilter := s.time.markFilter.sample x } } := by
  simp only [State.sampleMark, h, Bool.false_eq_true, if_false]

/-- The state as a mark is taken, with the rise in the filter. -/
def State.atMark (s : State) : State := { s with time := { s.time with markFilter := ⟨some true, true⟩ } }

/-- MARK is taken whatever the filter held (notes/assumptions/12.md). -/
theorem exec_mark_eq {n : Nat} {s : State} (h0 : s.inReset = false) : exec (.mark n) s = .next (s.atMark.takeMark n) := by
  rw [exec_mark, outsideReset_act h0, State.sampleMark_of_rise rfl]
  rfl

section mark
variable {n : Nat} {s : State}

theorem State.takeMark_syncing (h : s.time.opState = .syncing) : s.takeMark n = s.raiseEdge .start := by
  simp only [State.takeMark, h]

theorem State.takeMark_inTime (h : s.time.opState = .run) (hf : s.time.source = .follow) (he : s.markEarly n = false) :
    s.takeMark n = s.raiseEdge .mark := by
  simp only [State.takeMark, h, hf, he, Bool.false_eq_true, if_false]

theorem State.takeMark_early (h : s.time.opState = .run) (hf : s.time.source = .follow) (he : s.markEarly n = true) :
    s.takeMark n = (s.setCause .earlyMark).driveAlert := by
  simp only [State.takeMark, h, hf, he, if_true]

theorem State.takeMark_discarded
    (h : s.time.opState = .standby ∨ (∃ o e, s.time.opState = .hold o e) ∨
      s.time.opState = .run ∧ s.time.source = .internal) : s.takeMark n = s := by
  rcases h with h | ⟨o, e, h⟩ | ⟨h, hi⟩
  · simp only [State.takeMark, h]
  · simp only [State.takeMark, h]
  · simp only [State.takeMark, h, hi]

end mark

/-- Settles O40: the mark by the state it is taken in, and a sample by whether it completes a rise. -/
theorem markIsJudgedByStateAndTime : Obligations.MarkIsJudgedByStateAndTime := by
  refine ⟨fun n s h0 => ?_, fun x n s h0 => ?_⟩
  · rw [exec_mark_eq h0]
    refine ⟨fun ho => ?_, fun ho hf hn ht => ?_, fun ho hf he => ?_, fun h => ?_⟩
    · rw [State.takeMark_syncing (s := s.atMark) ho, State.raiseEdge_eq]
      rfl
    · have he : s.atMark.markEarly n = false := by
        rw [State.markEarly, Bool.or_eq_false_iff]
        exact ⟨hn, decide_eq_false (Nat.not_lt.mpr ht)⟩
      rw [State.takeMark_inTime (s := s.atMark) ho hf he, State.raiseEdge_eq]
      simp [State.atMark, State.claimed, State.tableFree, Timebase.atEdge, Timebase.restart, hf]
    · have he : s.atMark.markEarly n = true := by
        rw [State.markEarly, Bool.or_eq_true]
        exact he.imp id decide_eq_true
      rw [State.takeMark_early (s := s.atMark) ho hf he]
      exact ⟨(s.setCause .earlyMark).driveAlert.causes, rfl, s.raised_setCause .earlyMark⟩
    · rw [State.takeMark_discarded (s := s.atMark) h]
      rfl
  · rw [exec_mark_eq h0, exec_markSample, outsideReset_act h0]
    refine ⟨fun hp => ?_, fun hp hx => ?_, fun hp hl hx => ?_⟩
    · rw [State.sampleMark_of_no_rise, Filter.sample_of_disagree hp]
      refine Bool.eq_false_of_not_eq_true fun hr => hp ?_
      obtain ⟨-, hprev, rfl⟩ := (Filter.rises_iff _ _).mp hr
      exact hprev
    · by_cases hr : s.time.markFilter.rises x = true
      · obtain ⟨hl, -, rfl⟩ := (Filter.rises_iff _ _).mp hr
        have hstandby : s.time.opState = .standby := by simpa [hl] using hx
        rw [State.sampleMark_of_rise hr, Filter.sample_of_agree hp]
        exact congrArg _ (State.takeMark_discarded (s := s.atMark) (.inl hstandby))
      · rw [State.sampleMark_of_no_rise (Bool.eq_false_of_not_eq_true hr), Filter.sample_of_agree hp]
    · subst hx
      rw [State.sampleMark_of_rise ((Filter.rises_iff _ _).mpr ⟨hl, hp, rfl⟩), Filter.sample_of_agree hp]
      rfl

end Sys2Proof.Machine

namespace Sys2Proof.Machine

/-! ## O35: START -/

/-- An edge raised while a claim holds the table waits (R60, R74). -/
theorem State.raiseEdge_of_held {k : EdgeKind} {s : State} (h : s.arb.holder ≠ .nobody) :
    s.raiseEdge k = { s with arb := { s.arb with waitEdge := some k }, time := s.time.atEdge k } := by
  rw [State.raiseEdge_eq, State.claimed_of_held (State.tableFree_of_held h)]

/-- The waiting edge claim is the next granted, once no latch waits (R74). -/
theorem State.answer_holder_of_waiting {k : EdgeKind} {r : Response} {s : State} (h : s.arb.waitEdge = some k)
    (hl : s.latches = []) : (s.answer r).arb.holder = .edge k := by
  simp [State.answer, State.releaseTable_arb, h, hl]

/-- The state as START finds it, with the sent-since-START flag no (R189). -/
def State.unsent (s : State) : State := { s with out := { s.out with sentSinceStart := false } }

/-- START in STANDBY with the hold asserted (R160). -/
theorem State.startNow_held {s : State} (h : s.holdLevel = true) :
    s.startNow =
      { s with
        out := { s.out with sentSinceStart := false }
        time := { s.time with opState := .hold .starting s.time.interval } } :=
  if_pos h

theorem State.startNow_released {s : State} (h : s.holdLevel = false) :
    s.startNow = s.unsent.startReleased :=
  if_neg (ne_true_of_eq_false h)

theorem start_of_standby {s : State} (h : s.time.opState = .standby) : start () s = (s.startNow, .bare .ok) := by
  rw [start, if_pos h]

/-- Settles O35: START by the operating state, the hold level and the source. -/
theorem startActsByHoldAndTimebase : Obligations.StartActsByHoldAndTimebase := by
  intro iss s hg
  have hexec : exec (.start iss (.fields ())) s =
      .next ((start () s.holdForRequest).1.answer (start () s.holdForRequest).2) := by
    rw [exec_start, runRequest_granted hg]
    rfl
  have hstart (ho : s.time.opState = .standby) : exec (.start iss (.fields ())) s =
      .next (s.holdForRequest.startNow.answer ⟨.ok, .empty⟩) := by
    rw [hexec, start_of_standby (s := s.holdForRequest) ho]
    rfl
  have hreleased (ho : s.time.opState = .standby) (hl : s.holdLevel = false) : exec (.start iss (.fields ())) s =
      .next (s.holdForRequest.unsent.startReleased.answer ⟨.ok, .empty⟩) := by
    rw [hstart ho, State.startNow_released (s := s.holdForRequest) hl]
  refine ⟨fun ho => ?_, fun ho hl => ?_, fun ho hl hsrc => ?_, fun ho hl hsrc => ?_⟩
  · rw [hexec, start, if_neg (show ¬s.holdForRequest.time.opState = .standby from ho)]
    rfl
  · rw [hstart ho, State.startNow_held (s := s.holdForRequest) hl]
    rfl
  · have hedge : exec (.start iss (.fields ())) s =
        .next (State.answer ⟨.ok, .empty⟩
          { s with
            arb := { s.arb with holder := .request, waitEdge := some .start }
            out := { s.out with sentSinceStart := false }
            time := { s.time with opState := .run, timerRunning := true, windowOpen := false } }) := by
      rw [hreleased ho hl, State.startReleased_internal (s := s.holdForRequest.unsent) hsrc,
        State.raiseEdge_of_held (s := s.holdForRequest.unsent) nofun]
      simp [State.unsent, State.holdForRequest, Timebase.atEdge, Timebase.restart, hsrc]
    refine ⟨hedge, fun t ht hlatches => ?_⟩
    obtain rfl := Host.Outcome.next.inj (hedge.symm.trans ht)
    exact State.answer_holder_of_waiting rfl hlatches
  · rw [hreleased ho hl, State.startReleased_follow (s := s.holdForRequest.unsent) hsrc]
    rfl

/-! ## O37: HOLD_ON and HOLD_OFF -/

/-- An owner's change moves the owner alone where the level stays, an edge is outstanding, or the state after it agrees with
the level (R62, R71). -/
theorem State.changeHoldOwner_alone {t : Timebase} {s : State}
    (h : State.holdLevel { s with time := t } = s.holdLevel ∨ s.edgeOutstanding = true ∨ t.opState = .standby ∨
      (t.holdLine.level || t.hostHold) = true ∧ (∃ o e, t.opState = .hold o e) ∨
      (t.holdLine.level || t.hostHold) = false ∧ ∀ o e, t.opState ≠ .hold o e) :
    s.changeHoldOwner t = { s with time := t } := by
  rw [State.changeHoldOwner_eq]
  split
  case isTrue => rfl
  case isFalse hc =>
    rw [not_or] at hc
    exact State.takeHoldChange_of_agree ((h.resolve_left hc.1).resolve_left hc.2)

theorem State.changeHoldOwner_taken {t : Timebase} {s : State} (h : State.holdLevel { s with time := t } ≠ s.holdLevel)
    (hn : s.edgeOutstanding = false) : s.changeHoldOwner t = State.takeHoldChange { s with time := t } := by
  rw [State.changeHoldOwner_eq, if_neg]
  rintro (hc | hc)
  · exact h hc
  · exact Bool.false_ne_true (hn.symm.trans hc)

/-- While a request holds the table, an edge is outstanding exactly where one waits. -/
theorem State.holdForRequest_edgeOutstanding (s : State) :
    s.holdForRequest.edgeOutstanding = s.arb.waitEdge.isSome := by
  simp [State.edgeOutstanding, State.holdForRequest]

section owners
variable {iss : Issuer} {s : State}

theorem exec_holdOn_granted (hg : s.admission (.holdOn iss (.fields ())) = .granted) :
    exec (.holdOn iss (.fields ())) s =
      .next (State.answer ⟨.ok, .empty⟩ (s.holdForRequest.changeHoldOwner { s.time with hostHold := true })) := by
  rw [exec_holdOn, runRequest_granted hg]
  rfl

theorem exec_holdOff_granted (hg : s.admission (.holdOff iss (.fields ())) = .granted) :
    exec (.holdOff iss (.fields ())) s =
      .next (State.answer ⟨.ok, .empty⟩ (s.holdForRequest.changeHoldOwner { s.time with hostHold := false })) := by
  rw [exec_holdOff, runRequest_granted hg]
  rfl

/-- The state as a hold request leaves its flag. -/
def State.flagged (v : Bool) (s : State) : State := { s.holdForRequest with time := { s.time with hostHold := v } }

/-- HOLD_ON asserts the level, which is taken where it was not asserted. -/
theorem State.holdOn_taken (hl : s.holdLevel = false) (hw : s.arb.waitEdge = none) :
    s.holdForRequest.changeHoldOwner { s.time with hostHold := true } =
      (s.flagged true).takeHoldChange := by
  refine State.changeHoldOwner_taken ?_ (by rw [State.holdForRequest_edgeOutstanding, hw]; rfl)
  rw [show s.holdForRequest.holdLevel = false from hl]
  simp [State.holdLevel]

/-- HOLD_OFF releases the level where the HOLD line does not assert it, which is taken where the flag did. -/
theorem State.holdOff_taken (hl : s.time.holdLine.level = false) (hh : s.time.hostHold = true)
    (hw : s.arb.waitEdge = none) :
    s.holdForRequest.changeHoldOwner { s.time with hostHold := false } =
      (s.flagged false).takeHoldChange := by
  refine State.changeHoldOwner_taken ?_ (by rw [State.holdForRequest_edgeOutstanding, hw]; rfl)
  simp [State.holdLevel, hl, hh]

end owners

/-- Settles O37: the flag is an owner of the hold, and the level is taken by the operating state and the origin. -/
theorem holdRequestsActByStateAndOrigin : Obligations.HoldRequestsActByStateAndOrigin := by
  refine ⟨fun iss s hg => ?_, fun iss s hg => ?_⟩
  · have hlevel : (s.flagged true).holdLevel = true := by simp [State.holdLevel, State.flagged]
    rw [exec_holdOn_granted hg]
    refine ⟨fun h => ?_, fun hl hw ho => ?_, fun hl hw ho => ?_⟩
    · rw [State.changeHoldOwner_alone]
      rcases h with h | h | h | h
      · exact .inl (hlevel.trans h.symm)
      · refine .inr (.inl ?_)
        rw [State.holdForRequest_edgeOutstanding]
        exact Option.isSome_iff_ne_none.mpr h
      · exact .inr (.inr (.inl h))
      · exact .inr (.inr (.inr (.inl ⟨hlevel, h⟩)))
    · rw [State.holdOn_taken hl hw, State.takeHoldChange_run hlevel ho, State.raiseEdge_of_held (s := s.flagged true) nofun]
      rfl
    · rw [State.holdOn_taken hl hw, State.takeHoldChange_syncing hlevel ho]
      rfl
  · rw [exec_holdOff_granted hg]
    refine ⟨fun h => ?_, fun e hl hh hw => ?_⟩
    · rw [State.changeHoldOwner_alone]
      rcases h with h | h | h | h
      · exact .inl (by simp [State.holdLevel, h])
      · exact .inl (by simp [State.holdLevel, h])
      · refine .inr (.inl ?_)
        rw [State.holdForRequest_edgeOutstanding]
        exact Option.isSome_iff_ne_none.mpr h
      · cases hl : s.time.holdLine.level with
        | true => exact .inl (by simp [State.holdLevel, hl])
        | false => exact .inr (.inr (.inr (.inr ⟨rfl, h⟩)))
    · have hlevel : (s.flagged false).holdLevel = false := by simp [State.holdLevel, State.flagged, hl]
      rw [State.holdOff_taken hl hh hw]
      refine ⟨fun ho => ?_, fun ho => ?_, fun ho hsrc => ?_⟩
      · rw [State.takeHoldChange_hold_run hlevel ho, State.raiseEdge_of_held (s := s.flagged false) nofun]
        rfl
      · rcases ho with ho | ⟨ho, hsrc⟩
        · rw [State.takeHoldChange_hold_syncing hlevel ho]
          rfl
        · rw [State.takeHoldChange_hold_starting hlevel ho, State.startReleased_follow (s := s.flagged false) hsrc]
          rfl
      · rw [State.takeHoldChange_hold_starting hlevel ho, State.startReleased_internal (s := s.flagged false) hsrc,
          State.raiseEdge_of_held (s := s.flagged false) nofun]
        simp [State.flagged, State.holdForRequest, Timebase.atEdge, Timebase.restart, hsrc]

/-! ## O38: the HOLD line -/

@[simp] theorem Timebase.atEdge_holdLine (k : EdgeKind) (t : Timebase) : (t.atEdge k).holdLine = t.holdLine := by
  cases k <;> rfl

theorem State.takeHoldChange_holdLine (s : State) : s.takeHoldChange.time.holdLine = s.time.holdLine := by
  unfold State.takeHoldChange State.startReleased
  repeat' split
  all_goals simp [State.raiseEdge_eq]

theorem State.changeHoldOwner_holdLine (t : Timebase) (s : State) : (s.changeHoldOwner t).time.holdLine = t.holdLine := by
  rw [State.changeHoldOwner_eq]
  split
  · rfl
  · exact State.takeHoldChange_holdLine _

/-- Where the filter agrees with the level already, a sample at it changes nothing. -/
theorem State.sampleHold_of_steady {x : Bool} {s : State} (h : s.time.holdLine = ⟨some x, x⟩) : s.sampleHold x = s := by
  have hsame : { s.time with holdLine := s.time.holdLine.sample x } = s.time := by
    rw [Filter.sample_of_agree (by rw [h]), ← h]
  rw [State.sampleHold, hsame]
  exact State.changeHoldOwner_alone (.inl rfl)

/-- Two samples at a level are one change of the line's filter to it, whichever of them completes it (R158). -/
theorem State.sampleHold_twice (x : Bool) (s : State) :
    (s.sampleHold x).sampleHold x = s.changeHoldOwner { s.time with holdLine := ⟨some x, x⟩ } := by
  by_cases hp : s.time.holdLine.previous = some x
  · have hfirst : s.sampleHold x = s.changeHoldOwner { s.time with holdLine := ⟨some x, x⟩ } := by
      rw [State.sampleHold, Filter.sample_of_agree hp]
    rw [hfirst]
    exact State.sampleHold_of_steady (State.changeHoldOwner_holdLine _ _)
  · have hfirst : s.sampleHold x =
        { s with time := { s.time with holdLine := ⟨some x, s.time.holdLine.level⟩ } } := by
      rw [State.sampleHold, Filter.sample_of_disagree hp]
      exact State.changeHoldOwner_alone (.inl rfl)
    rw [hfirst, State.sampleHold, Filter.sample_of_agree rfl]
    rfl

/-- The state with the HOLD line's filter at a level. -/
def State.lineAt (x : Bool) (s : State) : State := { s with time := { s.time with holdLine := ⟨some x, x⟩ } }

/-- Settles O38: the line is an owner of the hold, and the level is taken by the operating state and the origin. -/
theorem holdLineIsTakenByTheTimebase : Obligations.HoldLineIsTakenByTheTimebase := by
  intro x s h0
  rw [exec_holdLineChange, outsideReset_act h0, State.sampleHold_twice]
  refine ⟨fun h => ?_, fun hx hh hn => ?_⟩
  · by_cases hsame : s.time.holdLine.level = x ∨ s.time.hostHold = true
    · rw [State.changeHoldOwner_alone (.inl ?_)]
      rcases hsame with h | h <;> simp [State.holdLevel, h]
    · rw [not_or, Bool.not_eq_true] at hsame
      rw [State.changeHoldOwner_alone]
      rcases (h.resolve_left hsame.1).resolve_left (by simp [hsame.2]) with hn | ho | ⟨hx, ho⟩ | ⟨hx, ho⟩
      · exact .inr (.inl hn)
      · exact .inr (.inr (.inl ho))
      · exact .inr (.inr (.inr (.inl ⟨by simp [hx], ho⟩)))
      · exact .inr (.inr (.inr (.inr ⟨by simp [hx, hsame.2], ho⟩)))
  · have hlevel : (s.lineAt x).holdLevel = x := by simp [State.holdLevel, State.lineAt, hh]
    have htaken : s.changeHoldOwner { s.time with holdLine := ⟨some x, x⟩ } = (s.lineAt x).takeHoldChange := by
      refine State.changeHoldOwner_taken (fun hsame => hx ?_) hn
      simpa [State.holdLevel, hh] using hsame.symm
    rw [htaken]
    refine ⟨fun hx ho => ?_, fun hx ho => ?_, fun e hx ho => ?_, fun e hx ho => ?_, fun e hx ho hsrc => ?_⟩
    · rw [State.takeHoldChange_run (hlevel.trans hx) ho, State.raiseEdge_eq]
      rfl
    · rw [State.takeHoldChange_syncing (hlevel.trans hx) ho]
      rfl
    · rw [State.takeHoldChange_hold_run (hlevel.trans hx) ho, State.raiseEdge_eq]
      rfl
    · rcases ho with ho | ⟨ho, hsrc⟩
      · rw [State.takeHoldChange_hold_syncing (hlevel.trans hx) ho]
        rfl
      · rw [State.takeHoldChange_hold_starting (hlevel.trans hx) ho, State.startReleased_follow (s := s.lineAt x) hsrc]
        rfl
    · rw [State.takeHoldChange_hold_starting (hlevel.trans hx) ho, State.startReleased_internal (s := s.lineAt x) hsrc,
        State.raiseEdge_eq]
      simp [State.lineAt, State.claimed, State.tableFree, Timebase.atEdge, Timebase.restart, hsrc]

end Sys2Proof.Machine

namespace Sys2Proof.Machine

/-! ## O36: STOP -/

theorem stop_of_running {s : State} (h : s.time.opState ≠ .standby) : stop () s = (s.stopNow, .bare .ok) := by
  rw [stop, if_neg h]

/-- At STOP a staged binding becomes live with its cut setpoint, and another's setpoint is cut (R103, R105). -/
theorem Apportioner.stop_binding (a : Apportioner) (p : PassId) :
    let b := a.applyStaged.takeBindings.bindings[p]
    b.staged = none ∧
      (∀ k v, a.bindings[p].staged = some (k, v) →
        b.live = k ∧ b.pulse = false ∧ b.setpoint = cutTo a.staged.passes[p].max v) ∧
      (a.bindings[p].staged = none →
        b.live = a.bindings[p].live ∧ b.pulse = a.bindings[p].pulse ∧
          b.setpoint = cutTo a.staged.passes[p].max a.bindings[p].setpoint) := by
  dsimp only
  rw [Apportioner.takeBindings_binding, Apportioner.applyStaged_binding]
  refine ⟨PassBinding.takeStaged_staged _, fun k v h => ?_, fun h => ?_⟩
  · rw [h]
    exact ⟨rfl, rfl, rfl⟩
  · rw [h]
    exact ⟨rfl, rfl, rfl⟩

theorem standDownFrame_passes (n : BitVec 32) (p : PassId) :
    (standDownFrame n).forced[p] = false ∧ (standDownFrame n).setpoints[p] = 0 := by
  simp [standDownFrame]

/-- Nothing is sent at STOP where no order frame has been since START; the waiting order frame is discarded (R189, R191). -/
theorem OrderOutput.standDown_of_unsent {n : BitVec 32} {o : OrderOutput} (h : o.sentSinceStart = false) :
    o.standDown n = o.discardOrder :=
  if_neg (ne_true_of_eq_false h)

/-- The stand-down frame begins, or waits for the frame being sent (R191). -/
theorem OrderOutput.standDown_of_sent {n : BitVec 32} {o : OrderOutput} (h : o.sentSinceStart = true) :
    o.standDown n =
      if o.sending.isNone then { o.discardOrder with sending := some (standDownFrame n) }
      else { o.discardOrder with waitStandDown := some (standDownFrame n) } :=
  if_pos h

theorem OrderOutput.standDown_frame (n : BitVec 32) (o : OrderOutput) :
    (o.standDown n).waitOrder = none ∧ (o.standDown n).sentSinceStart = o.sentSinceStart := by
  cases h : o.sentSinceStart with
  | false =>
    rw [OrderOutput.standDown_of_unsent h]
    exact ⟨rfl, h⟩
  | true =>
    rw [OrderOutput.standDown_of_sent h]
    split <;> exact ⟨rfl, h⟩

/-- Settles O36: each block's act at STOP. -/
theorem stopStandsThePartDown : Obligations.StopStandsThePartDown := by
  intro iss s hg
  have hexec : exec (.stop iss (.fields ())) s =
      .next ((stop () s.holdForRequest).1.answer (stop () s.holdForRequest).2) := by
    rw [exec_stop, runRequest_granted hg]
    rfl
  refine ⟨fun ho => ?_, fun ho => ?_⟩
  · rw [hexec, stop, if_pos (show s.holdForRequest.time.opState = .standby from ho)]
    rfl
  · rw [hexec, stop_of_running (s := s.holdForRequest) ho]
    obtain ⟨hwait, hsent⟩ := s.out.standDown_frame s.time.interval
    refine ⟨s.flow.applyStaged.takeBindings, s.out.standDown s.time.interval, rfl, s.flow.applyStaged_settingsTaken, rfl,
      rfl, rfl, rfl, rfl, rfl, s.flow.stop_binding, hwait, hsent, fun hno => ?_, fun hyes => ?_⟩
    · rw [OrderOutput.standDown_of_unsent hno]
      exact ⟨rfl, rfl⟩
    · rw [OrderOutput.standDown_of_sent hyes]
      refine ⟨standDownFrame s.time.interval, rfl, rfl, rfl, rfl, rfl, rfl, standDownFrame_passes _, rfl, rfl, rfl,
        fun hidle => ?_, fun hbusy => ?_⟩
      · rw [if_pos (Option.isNone_iff_eq_none.mpr hidle)]
        exact ⟨rfl, rfl⟩
      · rw [if_neg (mt Option.isNone_iff_eq_none.mp hbusy)]
        exact ⟨rfl, rfl⟩

/-! ## O34: the hold is compared as an edge is released -/

/-- The edge's work leaves the hold level as it is. -/
theorem State.edgeWork_holdLevel (k : EdgeKind) (s : State) : (s.edgeWork k).holdLevel = s.holdLevel := by
  simp only [State.holdLevel, State.edgeWork_time, Timebase.grantEdge]

theorem State.edgeWork_opState (k : EdgeKind) (s : State) : (s.edgeWork k).time.opState = s.time.opState := by
  rw [State.edgeWork_time]
  rfl

theorem State.compareHold_of_run {s : State} (ho : s.time.opState = .run) (hl : s.holdLevel = true) :
    s.compareHold = s.raiseEdge .holdEntry := by
  simp only [State.compareHold, ho, hl]

theorem State.compareHold_of_hold {e : BitVec 32} {s : State} (ho : s.time.opState = .hold .run e)
    (hl : s.holdLevel = false) : s.compareHold = s.raiseEdge .holdExit := by
  simp only [State.compareHold, ho, hl]

theorem State.compareHold_of_agree {s : State} (hrun : ¬(s.time.opState = .run ∧ s.holdLevel = true))
    (hhold : ¬((∃ e, s.time.opState = .hold .run e) ∧ s.holdLevel = false)) : s.compareHold = s := by
  rcases s.compareHold_cases with ⟨ho, hl, -⟩ | ⟨e, ho, hl, -⟩ | h
  · exact absurd ⟨ho, hl⟩ hrun
  · exact absurd ⟨⟨e, ho⟩, hl⟩ hhold
  · exact h

/-- A hold edge raised as the edge that holds the table is released: its claim is the next granted, after the latches that
wait (R2, R62, R74). -/
theorem State.raiseEdge_release_arb {j k : EdgeKind} {s : State} (hh : s.arb.holder = .edge j) (hw : s.arb.waitEdge = none) :
    (s.latches = [] → (s.raiseEdge k).releaseTable.arb = { s.arb with holder := .edge k }) ∧
      (s.latches ≠ [] →
        (s.raiseEdge k).releaseTable.arb = { s.arb with holder := .nobody, waitEdge := some k }) := by
  rw [State.raiseEdge_of_held (by rw [hh]; nofun), State.releaseTable_arb]
  refine ⟨fun hl => ?_, fun hl => ?_⟩
  · rw [if_pos hl, ← hw]
  · rw [if_neg hl]

theorem State.raiseEdge_release_time (k : EdgeKind) (s : State) :
    (s.raiseEdge k).releaseTable.time = s.time.atEdge k := by
  simp [State.raiseEdge_eq]

/-- Settles O34: the compare after the edge's work, and the release after it. -/
theorem holdIsComparedWhenAnEdgeIsReleased : Obligations.HoldIsComparedWhenAnEdgeIsReleased := by
  intro k s hg hw
  have hlevel := s.edgeWork_holdLevel k
  have hstate := s.edgeWork_opState k
  have harb : (s.edgeWork k).arb = s.arb := by simp
  have hlatches : (s.edgeWork k).latches = s.latches := by simp
  have hclaim (j : EdgeKind) := State.raiseEdge_release_arb (k := j) (s := s.edgeWork k) (by rw [harb]; exact hg.2)
    (by rw [harb]; exact hw)
  simp only [harb, hlatches] at hclaim
  refine ⟨_, exec_edge hg, fun ho hl => ?_, fun e ho hl => ?_, fun hrun hhold => ?_⟩
  · rw [State.compareHold_of_run (hstate.trans ho) (hlevel.trans hl), State.raiseEdge_release_time,
      State.edgeWork_time]
    exact ⟨rfl, rfl, rfl, hclaim .holdEntry⟩
  · rw [State.compareHold_of_hold (hstate.trans ho) (hlevel.trans hl), State.raiseEdge_release_time,
      State.edgeWork_time]
    exact ⟨rfl, rfl, rfl, hclaim .holdExit⟩
  · rw [State.compareHold_of_agree (by rwa [hstate, hlevel]) (by rwa [hstate, hlevel])]
    refine ⟨?_, ?_⟩
    · rw [State.releaseTable_time, State.edgeWork_time]
      rfl
    · simp only [State.releaseTable_arb, harb, hlatches]

end Sys2Proof.Machine

namespace Sys2Proof.Machine

/-! ## O44: the check of a settings body -/

/-- The item table (12.5), read both ways. -/
theorem settingOf_eq_some {code idx : Nat} {st : Setting} : settingOf code idx = some st ↔ (code, idx) = st.item := by
  constructor
  · intro h
    have hindex {n : Nat} {i : Fin n} : index? n idx = some i ↔ i.val = idx :=
      ⟨index?_eq_some, fun hi => hi ▸ index?_val i⟩
    unfold settingOf at h
    split at h
    all_goals
      simp only [stationSetting, Option.ite_none_right_eq_some, Option.some.injEq, Option.map_eq_some_iff, hindex,
        reduceCtorEq] at h
    all_goals grind [Setting.item]
  · intro h
    obtain ⟨rfl, rfl⟩ := Prod.mk.inj h
    cases st <;> simp [settingOf, stationSetting]

theorem Setting.item_injective : Function.Injective Setting.item := fun a b h => by
  have ha := settingOf_eq_some.mpr (rfl : (a.item.1, a.item.2) = a.item)
  rw [h, settingOf_eq_some.mpr (rfl : (b.item.1, b.item.2) = b.item)] at ha
  exact (Option.some.inj ha).symm

theorem settingInRange_iff (st : Setting) (v : Nat) : settingInRange st v = true ↔ st.accepts v := by
  have hflag : decide (v ≤ 1) = true ↔ v = 0 ∨ v = 1 := by rw [decide_eq_true_iff]; omega
  cases st with
  | timebase | style | scrubber => exact hflag
  | safe => exact iff_of_true rfl trivial
  | classMap c => simp only [settingInRange, Setting.accepts, Bool.and_eq_true, hflag]; simp; grind
  | _ => exact decide_eq_true_iff

/-- Checks 2, 3 and 5 of R187 item by item: each names a setting, with a value in its range. -/
theorem checkItems_eq_some {raw : List (Nat × Nat × Nat)} {items : List (Setting × Nat)} :
    checkItems raw = some items ↔
      raw.map (fun e => (settingOf e.1 e.2.1, e.2.2)) = items.map (fun e => (some e.1, e.2)) ∧
        ∀ e ∈ items, settingInRange e.1 e.2 = true := by
  induction raw generalizing items with
  | nil => cases items <;> simp [checkItems]
  | cons x rest ih =>
    obtain ⟨c, i, v⟩ := x
    cases items with
    | nil =>
      simp only [checkItems]
      split
      · split <;> simp
      · simp
    | cons e more =>
      obtain ⟨st, v'⟩ := e
      simp only [checkItems, List.map_cons, List.cons.injEq, Prod.mk.injEq, List.forall_mem_cons]
      split
      next st' hst =>
        split
        next hr =>
          simp only [Option.map_eq_some_iff, List.cons.injEq, Prod.mk.injEq, hst, Option.some.injEq]
          grind
        next hr => grind
      next hst => simp [hst]

/-- R187: the five checks of a body that is a whole number of items. -/
theorem checkSettings_eq_some {bytes : List Byte} {raw : List (Nat × Nat × Nat)} {items : List (Setting × Nat)}
    (h : parseItems bytes = some raw) :
    checkSettings bytes = some items ↔
      (1 ≤ raw.length ∧ raw.length ≤ Config.maxItems) ∧ checkItems raw = some items ∧ (items.map (·.1)).Nodup := by
  simp only [checkSettings, h]
  by_cases hlen : 1 ≤ raw.length ∧ raw.length ≤ Config.maxItems
  · rw [if_pos hlen]
    cases hc : checkItems raw with
    | none => simp
    | some found =>
      simp only [Option.ite_none_right_eq_some, Option.some.injEq, hlen]
      grind
  · simp [hlen]

/-- The two bytes of a value, read high byte first (12.5). -/
theorem bytes16_value (w : BitVec 16) :
    ((w >>> 8).setWidth 8 : Byte).toNat * 256 + (w.setWidth 8 : Byte).toNat = w.toNat := by
  have h := w.isLt
  simp only [BitVec.toNat_setWidth, BitVec.toNat_ushiftRight, Nat.shiftRight_eq_div_pow]
  omega

/-- A body of items is read as their codes, indices and values. -/
theorem parseItems_flatMap (raw : List (Byte × Byte × BitVec 16)) :
    parseItems (raw.flatMap fun e => [e.1, e.2.1] ++ bytes16 e.2.2) =
      some (raw.map fun e => (e.1.toNat, e.2.1.toNat, e.2.2.toNat)) := by
  induction raw with
  | nil => rfl
  | cons e rest ih =>
    simp only [List.flatMap_cons, bytes16, List.cons_append, List.nil_append, parseItems] at ih ⊢
    rw [ih, Option.map_some, bytes16_value, List.map_cons]

/-- Items that name settings carry the codes and indices of those settings (12.5). -/
theorem keys_of_items {raw : List (Byte × Byte × BitVec 16)} {items : List (Setting × Nat)}
    (h : (raw.map fun e => (settingOf e.1.toNat e.2.1.toNat, e.2.2.toNat)) = items.map fun e => (some e.1, e.2)) :
    raw.map (fun e => (e.1.toNat, e.2.1.toNat)) = items.map fun e => e.1.item := by
  induction raw generalizing items with
  | nil => cases items <;> simp_all
  | cons x rest ih =>
    cases items with
    | nil => simp at h
    | cons e more =>
      simp only [List.map_cons, List.cons.injEq, Prod.mk.injEq] at h ⊢
      obtain ⟨⟨hst, -⟩, hrest⟩ := h
      exact ⟨settingOf_eq_some.mp hst, ih hrest⟩

/-- Items that name settings name one twice exactly when a code and an index come twice. -/
theorem nodup_items {raw : List (Byte × Byte × BitVec 16)} {items : List (Setting × Nat)}
    (h : (raw.map fun e => (settingOf e.1.toNat e.2.1.toNat, e.2.2.toNat)) = items.map fun e => (some e.1, e.2)) :
    (items.map (·.1)).Nodup ↔ (raw.map fun e => (e.1, e.2.1)).Nodup := by
  have hbytes : Function.Injective fun k : Byte × Byte => (k.1.toNat, k.2.toNat) := fun a b hab => by
    simpa [Prod.ext_iff, ← BitVec.toNat_inj] using hab
  rw [← List.nodup_map_iff Setting.item_injective, ← List.nodup_map_iff hbytes, List.map_map, List.map_map]
  exact iff_of_eq (congrArg _ (keys_of_items h).symm)

/-- Settles O44, check by check. -/
theorem settingsBodyIsCheckedItemByItem : Obligations.SettingsBodyIsCheckedItemByItem := by
  refine ⟨fun raw items => ?_, fun _ => checkSettings_of_ragged, fun _ _ _ => settingOf_eq_some, settingInRange_iff⟩
  rw [checkSettings_eq_some (parseItems_flatMap raw), checkItems_eq_some, List.length_map, List.map_map]
  constructor
  · rintro ⟨⟨hmin, hmax⟩, ⟨hread, hrange⟩, hnodup⟩
    exact ⟨hmin, hmax, (nodup_items hread).mp hnodup, hread, hrange⟩
  · rintro ⟨hmin, hmax, hnodup, hread, hrange⟩
    exact ⟨⟨hmin, hmax⟩, ⟨hread, hrange⟩, (nodup_items hread).mpr hnodup⟩

end Sys2Proof.Machine

namespace Sys2Proof.Machine

/-! ## O45: SET_SETTINGS -/

section setSettings
variable {bytes : List Byte} {items : List (Setting × Nat)} {s : State}

/-- A timebase setting is refused outside STANDBY (R59, R187). -/
theorem setSettings_wrongMode (hc : checkSettings bytes = some items) (ho : s.time.opState ≠ .standby)
    (hn : itemValue .length items ≠ none ∨ itemValue .timebase items ≠ none) :
    setSettings bytes s = (s, .bare .wrongMode) := by
  have hnamed : namesTimebase items = true := by
    rw [← Bool.not_eq_false, namesTimebase_eq_false]
    tauto
  simp only [setSettings, hc, if_pos (And.intro hnamed ho)]

theorem setSettings_accepted (hc : checkSettings bytes = some items)
    (hi : s.time.opState = .standby ∨ itemValue .length items = none ∧ itemValue .timebase items = none) :
    setSettings bytes s = (s.setItems items, .bare (okStatus (safeClamped s.flow.live items))) := by
  have hmode : ¬(namesTimebase items = true ∧ s.time.opState ≠ .standby) := by
    rw [← namesTimebase_eq_false] at hi
    rintro ⟨hnamed, ho⟩
    rcases hi with hi | hi
    · exact ho hi
    · exact Bool.false_ne_true (hi.symm.trans hnamed)
  simp only [setSettings, hc, if_neg hmode]

theorem safeClamped_iff {live : FlowSettings} :
    safeClamped live items = true ↔ ∃ p v, itemValue (.safe p) items = some v ∧
      (itemValue (.passMax p) items).getD live.passes[p].max < v := by
  simp [safeClamped, safeLimit, indices, flowClamped_iff]

/-- R173: the scrubber enable is written at once, and the next slot kept. -/
theorem State.setItems_scrub (items : List (Setting × Nat)) (s : State) :
    (s.setItems items).scrub =
      { s.scrub with enable := ((itemValue .scrubber items).map fun v => decide (v = 1)).getD s.scrub.enable } := by
  have hscrub (u : State) : (u.setFlowItems items).scrub = u.scrub := by simp
  unfold State.setItems State.setScrubberItem State.setScrubber
  rw [hscrub]
  split
  next v hv =>
    rw [hv, Option.map_some, Option.getD_some]
    split
    next hsame => rw [← hsame]
    next => rfl
  next hv => rw [hv]; rfl

/-- R173: with the scrubber turned off no step of it waits. -/
theorem State.setItems_waitScrub (h : itemValue .scrubber items = some 0) (hon : s.scrub.enable = true) :
    (s.setItems items).arb.waitScrub = false := by
  simp [State.setItems, State.setScrubberItem, State.setScrubber, h, hon]

/-- A step that does not wait is not granted as a request is answered. -/
theorem State.answer_holder_ne_scrubber (r : Response) (h : s.arb.waitScrub = false) :
    (s.answer r).arb.waitScrub = false ∧ (s.answer r).arb.holder ≠ .scrubber := by
  simp only [State.answer, State.releaseTable_arb, h]
  repeat' split
  all_goals simp_all

/-- R102, R103: in STANDBY, with nothing staged, the flow settings of a request are live at once, with their cuts. -/
theorem Apportioner.writeSettings_taken {a : Apportioner} (st : StagedSettings) (h : a.staged = .none) :
    settingsTaken { a with staged := st } (a.writeSettings st) ∧
      ∀ p : PassId, (a.writeSettings st).bindings[p] =
        { a.bindings[p] with
          setpoint := cutTo st.passes[p].max a.bindings[p].setpoint
          staged := a.bindings[p].staged.map fun e => (e.1, cutTo st.passes[p].max e.2) } := by
  rw [Apportioner.writeSettings_eq]
  obtain ⟨-, htaken⟩ := Apportioner.applyStaged_settingsTaken { a with staged := st }
  exact ⟨⟨h, htaken⟩, fun p => Apportioner.applyStaged_binding { a with staged := st } p⟩

end setSettings

/-- Settles O45: the two refusals, then the accepted request block by block. -/
theorem setSettingsWritesOrStages : Obligations.SetSettingsWritesOrStages := by
  intro iss bytes s hg
  rw [exec_setSettings, runRequest_granted hg]
  refine ⟨fun hc => by rw [setSettings_badField hc]; rfl, fun items hc => ⟨fun ho hn => ?_, fun hi => ?_⟩⟩
  · rw [setSettings_wrongMode (s := s.holdForRequest) hc ho hn]
    rfl
  rw [setSettings_accepted (s := s.holdForRequest) hc hi]
  refine ⟨_, _, rfl, State.answer_port _ _, fun hclamp => ?_, fun hfit => ?_, ?_, fun hv => ?_, fun hv => ?_,
    fun hv => ?_, ?_, fun hv => ⟨?_, fun hon => ?_⟩, fun hv => ?_, fun hv => ?_, fun ho => ?_, fun ho hnone => ?_, ?_⟩
  · rw [State.holdForRequest_flow, safeClamped_iff.mpr hclamp]
    rfl
  · have hunclamped : safeClamped s.flow.live items = false := by
      rw [← Bool.not_eq_true, safeClamped_iff]
      rintro ⟨p, v, hv, hlt⟩
      exact absurd (hfit p v hv) (Nat.not_le.mpr hlt)
    rw [State.holdForRequest_flow, hunclamped]
    rfl
  · simp [State.setItems_time, Timebase.setItems]
  · simp [State.setItems_time, Timebase.setItems, hv]
  · simp [State.setItems_time, Timebase.setItems, hv]
  · simp [State.setItems_time, Timebase.setItems, hv]
  · simp [State.setItems_scrub]
  · simp [State.setItems_scrub, hv]
  · exact State.answer_holder_ne_scrubber _ (State.setItems_waitScrub hv hon)
  · simp [State.setItems_scrub, hv]
  · simp [State.setItems_scrub, hv]
  · have hflow : (s.holdForRequest.setItems items).flow =
        { s.flow with staged := stageItems s.flow.live items s.flow.staged } :=
      (State.setItems_flow items _).trans (if_neg ho)
    simp only [State.answer_frame, hflow, and_true]
    exact settingsStaged_stageItems _ _ _
  · have hflow : (s.holdForRequest.setItems items).flow =
        s.flow.writeSettings (stageItems s.flow.live items .none) :=
      (State.setItems_flow items _).trans (if_pos ho)
    obtain ⟨htaken, hbinding⟩ := Apportioner.writeSettings_taken (stageItems s.flow.live items .none) hnone
    simp only [State.answer_frame, hflow]
    refine ⟨_, settingsStaged_stageItems _ _ _, htaken, fun p => ?_, rfl, rfl, rfl, rfl⟩
    rw [hbinding]
    exact ⟨rfl, rfl, rfl⟩
  · exact State.eq_of_fields (by simp)

end Sys2Proof.Machine

namespace Sys2Proof.Machine

/-! ## O49: the scrubber -/

/-! ### A step falls due (R76, R172, R173) -/

/-- A step that falls due while the one before waits skips that one's slot. -/
theorem State.skipScrub_eq (s : State) :
    s.skipScrub =
      { s with
        arb := { s.arb with waitScrub := false }
        scrub := { s.scrub with next := if s.arb.waitScrub then s.scrub.next + 1 else s.scrub.next } } := by
  unfold State.skipScrub
  split
  next => rfl
  next hw => rw [← Bool.eq_false_of_not_eq_true hw]

/-- The step's claim holds a free table at once. -/
theorem State.presentScrub_of_free {s : State} (h : s.tableFree = true) :
    s.presentScrub = { s with arb := { s.arb with holder := .scrubber } } := by
  rw [State.presentScrub, if_pos h]

theorem State.presentScrub_of_held {s : State} (h : s.tableFree = false) :
    s.presentScrub = { s with arb := { s.arb with waitScrub := true } } := by
  rw [State.presentScrub, if_neg (by simp [h])]

theorem State.skipScrub_tableFree (s : State) : s.skipScrub.tableFree = s.tableFree := by
  rw [State.skipScrub_eq]
  rfl

/-! ### What a step does to its slot (R172) -/

theorem scrubSlot_of_free {sl : Slot} (h : sl.record = none) : scrubSlot sl = quietEffect sl := by
  rw [scrubSlot, h]

theorem scrubSlot_of_quarantined {sl : Slot} {r : Record} (h : sl.record = some r) (hq : r.life = .quarantined) :
    scrubSlot sl = quietEffect sl := by
  simp only [scrubSlot, h, if_pos hq]

theorem scrubSlot_of_record {sl : Slot} {r : Record} (h : sl.record = some r) (hq : r.life ≠ .quarantined) :
    scrubSlot sl = r.readWhole.effect sl.generation := by
  simp only [scrubSlot, h, if_neg hq]

/-- A clean record is read with nothing to write back and nothing to report. -/
theorem scrubSlot_of_clean {sl : Slot} {r : Record} (h : sl.record = some r) (hq : r.life ≠ .quarantined)
    (hbody : r.check = .clean) (hstaged : ∀ x, r.staged = some x → x.check = .clean) :
    scrubSlot sl = quietEffect sl := by
  have hnone (c : Check) (hc : c ≠ .clean) : r.staged.map (·.check) ≠ some c := fun hx => by
    obtain ⟨x, hmem, rfl⟩ := Option.map_eq_some_iff.mp hx
    exact hc (hstaged x hmem)
  have hread : r.readWhole = { record := r, fixes := 0, quarantined := false, stageLost := false } := by
    have hfixes : r.corrections = 0 := by simp [Record.corrections, hbody, hnone]
    rw [Record.readWhole_of_readable (by rw [hbody]; decide), Record.stagedRead_of_clean hstaged, hfixes,
      decide_eq_false (hnone _ (by decide)), ← hbody]
  rw [scrubSlot_of_record h hq, hread, quietEffect, ReadResult.effect, ← h]

/-- A step frees no slot. -/
theorem scrubSlot_isNone (sl : Slot) : (scrubSlot sl).slot.record.isNone = sl.record.isNone := by
  unfold scrubSlot
  split
  · rfl
  next r h =>
    split
    · rfl
    · rw [h]; rfl

/-- The read of an amendment that can be read leaves it clean. -/
theorem Record.stagedRead_of_readable {r : Record} (h : ∀ x, r.staged = some x → x.check ≠ .uncorrectable) :
    r.stagedRead = r.staged.map fun x => { x with check := .clean } := by
  unfold Record.stagedRead
  split
  next hx => rw [hx]; rfl
  next x hx => rw [if_neg (h x hx), hx]; rfl

theorem Record.stagedRead_of_lost {r : Record} {x : Staged} (h : r.staged = some x) (hx : x.check = .uncorrectable) :
    r.stagedRead = none := by
  simp only [Record.stagedRead, h, if_pos hx]

/-! ### A granted step (R172) -/

section scrubNow
variable {s : State}

/-- The step's slot is written, and the next slot advanced. -/
def State.scrubWritten (s : State) : State :=
  { s with scrub := s.scrub.advance, slots := s.slots.set s.scrub.next (scrubSlot s.slots[s.scrub.next]).slot }

theorem State.scrubNow_eq (s : State) :
    s.scrubNow = (s.scrubWritten.noteEffect s.scrub.next (scrubSlot s.slots[s.scrub.next])).driveAlert := rfl

theorem State.scrubNow_slots (s : State) :
    s.scrubNow.slots = s.slots.set s.scrub.next (scrubSlot s.slots[s.scrub.next]).slot :=
  State.applyEffect_slots _ _ _

theorem State.scrubNow_scrub (s : State) : s.scrubNow.scrub = { s.scrub with next := s.scrub.next + 1 } := by
  simp [State.scrubNow, Scrubber.advance]

/-- R15: a map in agreement loses no entry. -/
theorem State.scrubNow_tagMap (h : s.TagMapAgrees) : s.scrubNow.tagMap = s.tagMap := by
  have hmap : s.scrubNow.tagMap =
      if (scrubSlot s.slots[s.scrub.next]).slot.record.isNone then unmapSlot s.scrub.next s.tagMap else s.tagMap :=
    State.applyEffect_tagMap _ _ _
  rw [hmap, scrubSlot_isNone]
  split
  next hfree =>
    refine State.tagMap_filter_of_agrees h fun e he => ?_
    rw [decide_eq_true_iff]
    intro hsame
    have hfull : s.slots[s.scrub.next].record.isSome := by simpa only [hsame] using he
    rw [Option.isNone_iff_eq_none.mp hfree] at hfull
    cases hfull
  next => rfl

/-- R168: the step's corrections are counted in its slot's bank. -/
theorem State.scrubNow_countsAs (s : State) :
    s.scrubNow.countsAs (s.countFixes s.scrub.next (scrubSlot s.slots[s.scrub.next]).fixes) := by
  have hwritten : s.scrubWritten.countsAs s := State.countsAs_of_eq rfl rfl
  rw [State.scrubNow_eq]
  exact State.countsAs_driveAlert (State.noteEffect_countsAs hwritten _ _)

theorem State.scrubNow_recordQuarantined (s : State) :
    s.scrubNow.causes.recordQuarantined =
      ((scrubSlot s.slots[s.scrub.next]).quarantined || s.causes.recordQuarantined) :=
  State.noteEffect_recordQuarantined _ _ _

theorem State.scrubNow_stageLost (h : (scrubSlot s.slots[s.scrub.next]).stageLost = true) :
    s.scrubNow.hasCause .stageLost = true := by
  rw [State.scrubNow_eq, State.driveAlert_hasCause, State.noteEffect_hasCause (by decide), h]
  simp

/-- A step with nothing to report leaves the slots, the banks and the causes as they are. -/
theorem State.scrubNow_of_quiet (h : scrubSlot s.slots[s.scrub.next] = quietEffect s.slots[s.scrub.next]) :
    s.scrubNow.slots = s.slots ∧ s.scrubNow.banks = s.banks ∧
      s.scrubNow.causes = { s.causes with alert := s.scrubNow.causes.alert } := by
  refine ⟨?_, ?_, ?_⟩
  · rw [State.scrubNow_slots, h]
    exact Vector.set_getElem_self _
  · simp only [State.scrubNow, h, State.applyEffect_quiet, State.driveAlert_banks]
  · simp only [State.scrubNow, h, State.applyEffect_quiet, State.driveAlert_causes]

theorem State.scrubNow_recordAt {e : SlotEffect} (h : scrubSlot s.slots[s.scrub.next] = e) :
    s.scrubNow.recordAt s.scrub.next = e.slot.record := by
  rw [State.recordAt, State.scrubNow_slots, slots_set_get, if_pos rfl, h]

/-- R170: a body that cannot be corrected makes the slot QUARANTINED. -/
theorem State.scrubNow_of_lost {r : Record} (hr : s.recordAt s.scrub.next = some r) (hq : r.life ≠ .quarantined)
    (hbad : r.check = .uncorrectable) :
    s.scrubNow.recordAt s.scrub.next = some { r with life := .quarantined, staged := none } ∧
      s.scrubNow.banks = s.banks ∧ s.scrubNow.causes.recordQuarantined = true := by
  have hslot := scrubSlot_of_record hr hq
  rw [Record.readWhole_of_uncorrectable hbad, Record.readBody_of_uncorrectable hbad] at hslot
  obtain ⟨hbanks, -⟩ := s.scrubNow_countsAs
  rw [hslot] at hbanks
  refine ⟨State.scrubNow_recordAt hslot, hbanks, ?_⟩
  rw [State.scrubNow_recordQuarantined, hslot]
  rfl

/-- R168, R171: a body that can be read is written back clean with its amendment's read, the corrections counted. -/
theorem State.scrubNow_of_readable {r : Record} (hr : s.recordAt s.scrub.next = some r) (hq : r.life ≠ .quarantined)
    (hbody : r.check ≠ .uncorrectable) :
    s.scrubNow.recordAt s.scrub.next = some { r with check := .clean, staged := r.stagedRead } ∧
      s.scrubNow.banks = (s.countFixes s.scrub.next r.corrections).banks ∧
      s.scrubNow.hasCause .fixOverflow = (s.countFixes s.scrub.next r.corrections).hasCause .fixOverflow := by
  have hslot := scrubSlot_of_record hr hq
  rw [Record.readWhole_of_readable hbody] at hslot
  have hcounts := s.scrubNow_countsAs
  rw [hslot] at hcounts
  exact ⟨State.scrubNow_recordAt hslot, hcounts⟩

/-- R171: STAGE_LOST is set as an amendment is dropped. -/
theorem State.scrubNow_of_lostAmendment {r : Record} {x : Staged} (hr : s.recordAt s.scrub.next = some r)
    (hq : r.life ≠ .quarantined) (hbody : r.check ≠ .uncorrectable) (hx : r.staged = some x)
    (hlost : x.check = .uncorrectable) : s.scrubNow.hasCause .stageLost = true := by
  refine State.scrubNow_stageLost ?_
  rw [scrubSlot_of_record hr hq, Record.readWhole_of_readable hbody, hx, Option.map_some, hlost]
  rfl

end scrubNow

theorem State.releaseTable_arb_congr {s t : State} (hl : t.latches = s.latches) (ha : t.arb = s.arb) :
    t.releaseTable.arb = s.releaseTable.arb := by
  simp only [State.releaseTable_arb, hl, ha]

/-- Settles O49: the step as it falls due, then the granted step by what it reads. -/
theorem scrubberPresentsItsStepAndReadsOneSlot : Obligations.ScrubberPresentsItsStepAndReadsOneSlot := by
  refine ⟨fun s h0 => ⟨fun hoff => ?_, fun hon hfree => ?_, fun hon hheld => ?_⟩,
    fun s h0 => ⟨fun hh => ?_, fun hh => ?_⟩⟩
  · rw [exec_scrubStepDue, outsideReset_act h0, if_neg (by simp [hoff])]
  · rw [exec_scrubStepDue, outsideReset_act h0, if_pos hon,
      State.presentScrub_of_free (s.skipScrub_tableFree.trans hfree), State.skipScrub_eq]
  · rw [exec_scrubStepDue, outsideReset_act h0, if_pos hon,
      State.presentScrub_of_held (s.skipScrub_tableFree.trans hheld), State.skipScrub_eq]
  · rw [exec_scrubStep, outsideReset_act h0, if_neg hh]
  rw [exec_scrubStep, outsideReset_act h0, if_pos hh]
  have hslots : s.scrubNow.releaseTable.slots = s.scrubNow.slots := by simp
  have hbanks : s.scrubNow.releaseTable.banks = s.scrubNow.banks := by simp
  have hcauses : s.scrubNow.releaseTable.causes = s.scrubNow.causes := by simp
  have hrecord : s.scrubNow.releaseTable.recordAt s.scrub.next = s.scrubNow.recordAt s.scrub.next := by
    rw [State.recordAt, hslots, State.recordAt]
  have hcause (c : Sticky) : s.scrubNow.releaseTable.hasCause c = s.scrubNow.hasCause c :=
    State.hasCause_congr hcauses c
  refine ⟨_, rfl, ?_, fun j hj => ?_, State.releaseTable_arb_congr (by simp) (by simp), fun hmap => ?_,
    State.eq_of_fields (by simp), fun hquiet => ?_, fun r hr hq => ⟨fun hbad => ?_, fun hbody hstaged => ?_,
    fun x hbody hx hlost => ?_⟩⟩
  · simp [State.scrubNow_scrub]
  · rw [hslots, State.scrubNow_slots, slots_set_get, if_neg (Ne.symm hj)]
  · simp [State.scrubNow_tagMap hmap]
  · have hslot : scrubSlot s.slots[s.scrub.next] = quietEffect s.slots[s.scrub.next] := by
      cases hr : s.slots[s.scrub.next].record with
      | none => exact scrubSlot_of_free hr
      | some r =>
        by_cases hq : r.life = .quarantined
        · exact scrubSlot_of_quarantined hr hq
        · obtain ⟨hbody, hstaged⟩ := (hquiet r hr).resolve_left hq
          exact scrubSlot_of_clean hr hq hbody hstaged
    rw [hslots, hbanks, hcauses]
    exact State.scrubNow_of_quiet hslot
  · rw [hrecord, hbanks, hcauses]
    exact State.scrubNow_of_lost hr hq hbad
  · rw [hrecord, hbanks, hcause, ← Record.stagedRead_of_readable hstaged]
    exact State.scrubNow_of_readable hr hq hbody
  · rw [hrecord, hbanks, hcause, hcause, ← Record.stagedRead_of_lost hx hlost]
    obtain ⟨hread, hcount, hoverflow⟩ := State.scrubNow_of_readable hr hq hbody
    exact ⟨hread, hcount, hoverflow, State.scrubNow_of_lostAmendment hr hq hbody hx hlost⟩

end Sys2Proof.Machine

namespace Sys2Proof.Machine

/-! ## O17: an edge opens an interval -/

/-! ### The causes an edge sets -/

/-- The enables stand as they were, and no sticky cause is cleared. -/
def State.causesGrow (s t : State) : Prop :=
  t.causes.enable = s.causes.enable ∧ t.causes.lineEnable = s.causes.lineEnable ∧
    ∀ c, s.hasCause c = true → t.hasCause c = true

section causesGrow
variable {s t u : State}

theorem State.causesGrow_of_eq (h : t.causes = s.causes) : s.causesGrow t :=
  ⟨by rw [h], by rw [h], fun c hc => (State.hasCause_congr h c).trans hc⟩

theorem State.causesGrow.trans (h : s.causesGrow t) (h' : t.causesGrow u) : s.causesGrow u := by
  obtain ⟨henable, hline, hcause⟩ := h
  obtain ⟨henable', hline', hcause'⟩ := h'
  exact ⟨henable'.trans henable, hline'.trans hline, fun c hc => hcause' c (hcause c hc)⟩

theorem State.causesGrow_setCause (x : Sticky) (s : State) : s.causesGrow (s.setCause x) :=
  ⟨rfl, rfl, fun c hc => by rw [State.setCause_hasCause, hc, Bool.or_true]⟩

theorem State.causesGrow_setCauseIf (b : Bool) (x : Sticky) (s : State) : s.causesGrow (s.setCauseIf b x) := by
  cases b with
  | false => exact State.causesGrow_of_eq rfl
  | true => exact s.causesGrow_setCause x

theorem State.causesGrow_countFixes (i : SlotId) (n : Nat) (s : State) : s.causesGrow (s.countFixes i n) := by
  have hone (s : State) : s.causesGrow (s.countFix i) := by
    unfold State.countFix
    dsimp only
    split
    · exact State.causesGrow_of_eq rfl
    · exact State.causesGrow_setCause _ _
  induction n generalizing s with
  | zero => exact State.causesGrow_of_eq rfl
  | succ n ih => exact (hone s).trans (ih _)

theorem State.causesGrow_noteEffect (i : SlotId) (e : SlotEffect) (s : State) : s.causesGrow (s.noteEffect i e) := by
  have hmap : s.causesGrow (if e.slot.record.isNone then { s with tagMap := unmapSlot i s.tagMap } else s) :=
    State.causesGrow_of_eq (by split <;> rfl)
  have hcount := hmap.trans (State.causesGrow_countFixes i e.fixes _)
  unfold State.noteEffect
  refine State.causesGrow.trans ?_ (State.causesGrow_setCauseIf _ _ _)
  refine State.causesGrow.trans ?_ (State.causesGrow_setCauseIf _ _ _)
  split
  · exact hcount
  · exact hcount

theorem State.causesGrow_walk (v : PassView) (s : State) : s.causesGrow (s.walk v) := by
  have hfold (es : SlotId → SlotEffect) (l : List SlotId) (t : State) :
      t.causesGrow (l.foldl (fun acc i => acc.noteEffect i (es i)) t) := by
    induction l generalizing t with
    | nil => exact State.causesGrow_of_eq rfl
    | cons i l ih => exact (t.causesGrow_noteEffect i (es i)).trans (ih _)
  have hwritten (slots : Vector Slot 64) : s.causesGrow { s with slots := slots } := State.causesGrow_of_eq rfl
  unfold State.walk
  exact (hwritten _).trans (hfold _ _ _)

theorem State.causesGrow_raiseEdgeCauses (r : IntervalRecord) (s : State) : s.causesGrow (s.raiseEdgeCauses r) := by
  unfold State.raiseEdgeCauses
  exact ((((s.causesGrow_setCauseIf _ _).trans (State.causesGrow_setCauseIf _ _ _)).trans
    (State.causesGrow_setCauseIf _ _ _)).trans (State.causesGrow_setCauseIf _ _ _)).trans
    (State.causesGrow_setCauseIf _ _ _)

theorem State.causesGrow_serveEdge (d : DemandSet) (s : State) : s.causesGrow (s.serveEdge d) := by
  have hpublish : s.causesGrow { s with demand := some d } := State.causesGrow_of_eq rfl
  have hpause (t : State) : t.causesGrow (t.pauseWork d) := by
    have hblock (p : PauseBlock) : t.causesGrow { t with pause := p } := State.causesGrow_of_eq rfl
    unfold State.pauseWork
    exact (hblock _).trans (State.causesGrow_setCauseIf _ _ _)
  have happortion (w : UnitOrderSet) (t : State) : t.causesGrow (t.apportion d w) := by
    have hflow (a : Apportioner) : t.causesGrow { t with flow := a } := State.causesGrow_of_eq rfl
    unfold State.apportion
    exact (hflow _).trans (State.causesGrow_raiseEdgeCauses _ _)
  have hsend (f : OrderFrame) (units : Vector UnitOrder 12) (r : IntervalRecord) (t : State) :
      t.causesGrow ((t.handFrame f units).writeBack d r) := State.causesGrow_of_eq (by simp)
  unfold State.serveEdge
  exact ((hpublish.trans (hpause _)).trans (happortion _ _)).trans (hsend _ _ _ _)

/-- An edge clears no cause and writes no enable (R178). -/
theorem State.causesGrow_edgeWork (k : EdgeKind) (s : State) : s.causesGrow (s.edgeWork k) := by
  have hopen : s.causesGrow (s.openEdge k) := State.causesGrow_of_eq rfl
  have hpass (t : State) : t.causesGrow (t.passEdge k) := by
    have hlatch (v : Vector Bool 8) : t.causesGrow { t with latched := v } := State.causesGrow_of_eq rfl
    unfold State.passEdge
    exact (hlatch _).trans (State.causesGrow_walk _ _)
  have halert (t : State) : t.causesGrow t.driveAlert := ⟨rfl, rfl, fun _ => id⟩
  unfold State.edgeWork
  exact ((hopen.trans (hpass _)).trans (State.causesGrow_serveEdge _ _)).trans (halert _)

end causesGrow

/-- The causes that the walk does not set (R87, R168, R171). -/
theorem State.walk_hasCause {c : Sticky} (hc : c ∉ [Sticky.fixOverflow, .stageLost, .nullified]) (v : PassView)
    (s : State) : (s.walk v).hasCause c = s.hasCause c := by
  simp only [List.mem_cons, List.not_mem_nil, or_false, not_or] at hc
  obtain ⟨hfix, hstage, hnull⟩ := hc
  have hnote (t : State) (i : SlotId) (e : SlotEffect) : (t.noteEffect i e).hasCause c = t.hasCause c := by
    rw [State.noteEffect_hasCause hfix]
    simp [Ne.symm hstage, Ne.symm hnull]
  have hwritten (slots : Vector Slot 64) : State.hasCause c { s with slots := slots } = s.hasCause c := rfl
  rw [State.walk, State.foldEffects_frame (State.hasCause c) hnote, hwritten]

theorem State.edgePass_hasCause {c : Sticky} (hc : c ∉ [Sticky.fixOverflow, .stageLost, .nullified]) (k : EdgeKind)
    (s : State) : ((s.openEdge k).passEdge k).hasCause c = s.hasCause c := by
  rw [State.passEdge, State.walk_hasCause hc]
  exact State.hasCause_congr rfl c

/-- The causes that an edge does not set. -/
theorem State.edgeWork_hasCause {c : Sticky} (hc : c ∈ [Sticky.restart, .markLost, .earlyMark]) (k : EdgeKind)
    (s : State) : (s.edgeWork k).hasCause c = s.hasCause c := by
  rw [State.edgeWork, State.driveAlert_hasCause, State.serveEdge_hasCause (by revert c; decide),
    State.edgePass_hasCause (by revert c; decide)]

theorem State.apportion_inflowStale (d : DemandSet) (u : UnitOrderSet) (s : State) :
    (s.apportion d u).hasCause .inflowStale = (s.flow.fallbackFlag || s.hasCause .inflowStale) := by
  have hstale : (computeRecord d u s.flow).inflowStale = s.flow.fallbackFlag := rfl
  have htake (a : Apportioner) : State.hasCause .inflowStale { s with flow := a } = s.hasCause .inflowStale :=
    State.hasCause_congr rfl _
  rw [State.apportion, State.raiseEdgeCauses]
  simp only [State.setCauseIf_hasCause, htake, hstale]
  simp

/-- R100: after the walk, INFLOW_STALE is set with the fallback. -/
theorem State.serveEdge_inflowStale (d : DemandSet) (s : State) :
    (s.serveEdge d).hasCause .inflowStale = (s.flow.fallbackFlag || s.hasCause .inflowStale) := by
  have hpause (t : State) : (t.pauseWork d).hasCause .inflowStale = t.hasCause .inflowStale := by
    rw [State.pauseWork, State.setCauseIf_hasCause, decide_eq_false (by decide), Bool.and_false, Bool.false_or]
    exact State.hasCause_congr rfl _
  have hframe (f : OrderFrame) (units : Vector UnitOrder 12) (t : State) :
      (t.handFrame f units).hasCause .inflowStale = t.hasCause .inflowStale := State.hasCause_congr (by simp) _
  have hwrite (r : IntervalRecord) (t : State) : (t.writeBack d r).hasCause .inflowStale = t.hasCause .inflowStale :=
    State.hasCause_congr (by simp) _
  rw [State.serveEdge, hwrite, hframe, State.apportion_inflowStale, hpause,
    State.hasCause_congr (s := s) (t := { s with demand := some d }) rfl]
  simp

theorem State.edgeWork_inflowStale (k : EdgeKind) (s : State) :
    (s.edgeWork k).hasCause .inflowStale = (s.hasCause .inflowStale || s.grantedFlow.fallbackFlag) := by
  rw [State.edgeWork, State.driveAlert_hasCause, State.serveEdge_inflowStale, State.edgePass_hasCause (by decide),
    Bool.or_comm]
  simp

/-! ### The inflow at a grant (R99, R100) -/

section inflow
variable {a : Apportioner}

/-- A held inflow younger than the stale limit is used. -/
theorem Apportioner.atGrant_of_fresh {q : Nat} (hq : a.heldInflow = some q)
    (hage : a.atGrant.age < a.atGrant.live.staleLimit) : a.atGrant.qUsed = q ∧ a.atGrant.fallbackFlag = false := by
  have hfresh : a.atGrant.freshInflow = some q := (if_pos hage).trans hq
  have hflag : a.atGrant.fallbackFlag = a.atGrant.freshInflow.isNone := rfl
  rw [Apportioner.qUsed, hflag, hfresh]
  exact ⟨rfl, rfl⟩

/-- With none held, or a stale one, the fallback is used. -/
theorem Apportioner.atGrant_of_stale
    (h : a.heldInflow = none ∨ a.atGrant.live.staleLimit ≤ a.atGrant.age) :
    a.atGrant.qUsed = a.atGrant.live.fallback ∧ a.atGrant.fallbackFlag = true := by
  have hfresh : a.atGrant.freshInflow = none := by
    unfold Apportioner.freshInflow
    split
    next hage => exact h.resolve_right (Nat.not_le.mpr hage)
    next => rfl
  have hflag : a.atGrant.fallbackFlag = a.atGrant.freshInflow.isNone := rfl
  rw [Apportioner.qUsed, hflag, hfresh]
  exact ⟨rfl, rfl⟩

end inflow

/-! ### The conditions an edge latches (R78, R154) -/

theorem State.conditionsAt_zero (k : EdgeKind) (s : State) :
    (s.conditionsAt k)[(0 : CondId)] = decide (k = .holdEntry) := by
  simp [State.conditionsAt, index?]

theorem State.conditionsAt_succ (k : EdgeKind) (s : State) (c : Fin 7) :
    (s.conditionsAt k)[c.succ] = currentValue s.sensors s.conditions[c] := by
  simp [State.conditionsAt]

/-! ### The interval (R61, R77) -/

/-- The hold compare as the table is released opens no interval. -/
theorem State.compareHold_opened (s : State) :
    s.compareHold.time.interval = s.time.interval ∧ s.compareHold.time.lastEdge = s.time.lastEdge := by
  have hedge (k : EdgeKind) (t : Timebase) : (t.atEdge k).interval = t.interval ∧ (t.atEdge k).lastEdge = t.lastEdge := by
    cases k <;> exact ⟨rfl, rfl⟩
  rcases s.compareHold_cases with ⟨-, -, h⟩ | ⟨e, -, -, h⟩ | h
  · rw [h, State.raiseEdge_eq]
    exact hedge _ _
  · rw [h, State.raiseEdge_eq]
    exact hedge _ _
  · rw [h]
    exact ⟨rfl, rfl⟩

/-- What the edge's record says of its interval and its inflow (R122). -/
theorem State.edgeRecord_heading (k : EdgeKind) (s : State) :
    (s.edgeRecord k).interval = (if k = .start then 1 else s.time.interval + 1) ∧ (s.edgeRecord k).kind = k ∧
      (s.edgeRecord k).age = s.grantedFlow.age ∧ (s.edgeRecord k).qUsed = s.grantedFlow.qUsed ∧
      (s.edgeRecord k).fallbackUsed = s.grantedFlow.fallbackFlag :=
  ⟨rfl, rfl, rfl, rfl, rfl⟩

theorem State.edgeDemand_heading (k : EdgeKind) (s : State) :
    (s.edgeDemand k).interval = (if k = .start then 1 else s.time.interval + 1) ∧ (s.edgeDemand k).kind = k :=
  ⟨rfl, rfl⟩

theorem State.edge_opened (k : EdgeKind) (s : State) :
    (s.edgeWork k).compareHold.releaseTable.time.interval = (if k = .start then 1 else s.time.interval + 1) ∧
      (s.edgeWork k).compareHold.releaseTable.time.lastEdge = some k := by
  obtain ⟨hinterval, hlast⟩ := (s.edgeWork k).compareHold_opened
  rw [State.releaseTable_time, hinterval, hlast, State.edgeWork_time]
  exact ⟨rfl, rfl⟩

/-- Settles O17: the edge's figures, then its causes, then its frame. -/
theorem edgeOpensAnInterval : Obligations.EdgeOpensAnInterval := by
  refine fun s => ⟨fun k hg => ⟨_, s.edgeRecord k, s.edgeDemand k, exec_edge hg, ?_⟩, exec_edge_of_no_edge⟩
  generalize ht : (s.edgeWork k).compareHold.releaseTable = t
  have hflow : t.flow = s.grantedFlow.take (s.edgeRecord k) := by simp [← ht]
  have hdemand : t.demand = some (s.edgeDemand k) := by simp [← ht]
  have hlatched : t.latched = s.conditionsAt k := by simp [← ht]
  have hcauses : t.causes = (s.edgeWork k).causes := by simp [← ht]
  obtain ⟨hinterval, hlast⟩ := State.edge_opened k s
  rw [ht] at hinterval hlast
  obtain ⟨hrinterval, hrkind, hrage, hrused, hrfallback⟩ := State.edgeRecord_heading k s
  obtain ⟨hdinterval, hdkind⟩ := State.edgeDemand_heading k s
  obtain ⟨henable, hline, hgrow⟩ := State.causesGrow_edgeWork k s
  have hcause (c : Sticky) : t.hasCause c = (s.edgeWork k).hasCause c := State.hasCause_congr hcauses c
  have hstale : t.hasCause .inflowStale = (s.hasCause .inflowStale || (s.edgeRecord k).fallbackUsed) := by
    rw [hcause, State.edgeWork_inflowStale, hrfallback]
  refine ⟨by rw [hflow]; rfl, hdemand, hinterval, hlast, hrinterval.trans hinterval.symm, hrkind,
    hdinterval.trans hinterval.symm, hdkind, ?_, fun c => ⟨fun hc => ?_, fun m inverted hc => ?_⟩, ?_, ?_, ?_, ?_,
    fun q hq hage => ?_, fun hnone => ?_, ?_, ?_, fun c hc => ?_, hstale, fun c hc => ?_, ?_⟩
  · rw [hlatched, State.conditionsAt_zero]
  · rw [hlatched, State.conditionsAt_succ, currentValue, hc]
  · rw [hlatched, State.conditionsAt_succ, currentValue, hc]
  · rw [hflow]
    rfl
  · rw [hflow]
    rfl
  · rw [hflow]
    rfl
  · rw [hrage, hflow]
    rfl
  · rw [hflow] at hage ⊢
    obtain ⟨hused, hflag⟩ := Apportioner.atGrant_of_fresh hq hage
    exact ⟨hrused.trans hused, hrfallback.trans hflag, hflag⟩
  · rw [hflow] at hnone ⊢
    obtain ⟨hused, hflag⟩ := Apportioner.atGrant_of_stale hnone
    have hfallback := hrfallback.trans hflag
    exact ⟨hrused.trans hused, hfallback, hflag, by rw [hstale, hfallback, Bool.or_true]⟩
  · rw [hcauses, henable]
  · rw [hcauses, hline]
  · rw [hcause, hgrow c hc]
  · rw [hcause, State.edgeWork_hasCause hc]
  · rw [← ht]
    exact State.eq_of_fields (by simp)

end Sys2Proof.Machine

/-! # Proofs of the schedule engine

What an edge makes of the slots (O19, O21, O22), the demand set it publishes of them (O23, O24) and the served figures it
writes back (O27). First the state an edge leaves, by field; then the statements on the demand set, which read it off the
slots; then those on the slots, over an equation for each case of the pass and for each branch of its steps. -/

namespace Sys2Proof.Machine

/-! ## The state that an edge leaves -/

/-- The state that EDGE_CLAIM_GRANT leaves of an edge of kind `k` (`exec_afterEdge`). -/
def State.afterEdge (k : EdgeKind) (s : State) : State := (s.edgeWork k).compareHold.releaseTable

theorem exec_afterEdge {k : EdgeKind} {s : State} (h : s.edgeGranted k) :
    exec .edgeClaimGrant s = .next (s.afterEdge k) := exec_edge h

/-- The record with its served figure written, where one is (R93). -/
def Record.withServed (v : Option Nat) (r : Record) : Record :=
  match v with
  | some n => { r with body := { r.body with servedFlow := some n }, check := .clean }
  | none => r

theorem Slot.writeServed_record (v : Option Nat) (sl : Slot) :
    (sl.writeServed v).record = sl.record.map (Record.withServed v) := by
  obtain ⟨g, r⟩ := sl
  cases v <;> cases r <;> rfl

section afterEdge
variable (k : EdgeKind) (s : State)

theorem State.afterEdge_demand : (s.afterEdge k).demand = some (s.edgeDemand k) := by simp [State.afterEdge]

theorem State.afterEdge_flow : (s.afterEdge k).flow = s.grantedFlow.take (s.edgeRecord k) := by simp [State.afterEdge]

theorem State.afterEdge_flow_record : (s.afterEdge k).flow.record = some (s.edgeRecord k) := by
  rw [State.afterEdge_flow, Apportioner.take_record]

theorem State.afterEdge_latched : (s.afterEdge k).latched = (s.edgeView k).conditions := by
  simp [State.afterEdge, State.edgeView]

theorem State.afterEdge_causes : (s.afterEdge k).causes = (s.edgeWork k).causes := by simp [State.afterEdge]

theorem State.afterEdge_slot (i : SlotId) :
    (s.afterEdge k).slots[i] =
      (passSlot (s.edgeView k) s.slots[i]).slot.writeServed (writtenFigure (s.edgeDemand k) (s.edgeRecord k) i) :=
  edge_slot k s i

theorem State.walkedSlots_get (i : SlotId) : (s.walkedSlots k)[i] = (passSlot (s.edgeView k) s.slots[i]).slot :=
  mapTable_get _ _ _

/-- The record in a slot after the edge: the one that the walk left, with its served figure written. -/
theorem State.afterEdge_recordAt (i : SlotId) :
    (s.afterEdge k).recordAt i =
      (s.walkedSlots k)[i].record.map (Record.withServed (writtenFigure (s.edgeDemand k) (s.edgeRecord k) i)) := by
  rw [State.recordAt, State.afterEdge_slot, Slot.writeServed_record, State.walkedSlots_get]

/-- A property that does not look at served_flow is one of the record that the walk left. -/
theorem State.afterEdge_exists {P : Record → Prop}
    (hP : ∀ (n : Nat) (r : Record), P { r with body := { r.body with servedFlow := some n }, check := .clean } ↔ P r)
    (i : SlotId) :
    (∃ r, (s.afterEdge k).recordAt i = some r ∧ P r) ↔ ∃ r, (s.walkedSlots k)[i].record = some r ∧ P r := by
  have hserved (v : Option Nat) (r : Record) : P (r.withServed v) ↔ P r := by
    cases v with
    | none => exact Iff.rfl
    | some n => exact hP n r
  rw [State.afterEdge_recordAt]
  simp only [Option.map_eq_some_iff, ↓existsAndEq, and_true, hserved]

/-- The tag map keeps the entries of the slots that still hold a record (R15). -/
theorem State.afterEdge_tagMap :
    (s.afterEdge k).tagMap = s.tagMap.filter fun e => ((s.afterEdge k).recordAt e.2).isSome := by
  have hmap : (s.afterEdge k).tagMap = (s.edgeWork k).tagMap := by simp [State.afterEdge]
  rw [hmap, State.edgeWork_tagMap]
  refine List.filter_congr fun e _ => ?_
  rw [State.afterEdge_recordAt, Option.isSome_map]

end afterEdge

end Sys2Proof.Machine

namespace Sys2Proof.Machine

/-! ## O23: the served records -/

section demand
variable {n : BitVec 32} {k : EdgeKind} {b : Vector PassBinding 6} {cm : Vector Tier 8} {before after : Vector Slot 64}

theorem buildDemand_requests0 (p : PassId) :
    (buildDemand n k b cm before after).requests0[p] =
      tierRequest (buildDemand n k b cm before after).contributions p 0 := by
  simp [buildDemand]

theorem buildDemand_requests1 (p : PassId) :
    (buildDemand n k b cm before after).requests1[p] =
      tierRequest (buildDemand n k b cm before after).contributions p 1 := by
  simp [buildDemand]

theorem contributions_pairwise : ((buildDemand n k b cm before after).contributions.map (·.slot)).Pairwise (· < ·) :=
  pairwise_slots _ (fun i => contributionOf b (forcedSet after) cm i after[i]) fun _ _ => contributionOf_slot

theorem claims_pairwise : ((buildDemand n k b cm before after).claims.map (·.slot)).Pairwise (· < ·) :=
  pairwise_slots _ (fun i => pauseClaimOf i after[i]) fun _ _ hc => (pauseClaimOf_eq.mp hc).1

/-- A slot makes no contribution exactly where none on the list is its own. -/
theorem contributionOf_eq_none {i : SlotId} :
    contributionOf b (forcedSet after) cm i after[i] = none ↔
      ∀ c ∈ (buildDemand n k b cm before after).contributions, c.slot ≠ i := by
  rw [Option.eq_none_iff_forall_not_mem]
  constructor
  · rintro h c hc rfl
    exact h c (mem_contributions.mp hc)
  · intro h c hc
    obtain rfl := contributionOf_slot hc
    exact h c (mem_contributions.mpr hc) rfl

/-- R92: the unserved list names the PASS_FLOW records that are neither QUARANTINED nor contribute. -/
theorem mem_unserved_iff {i : SlotId} :
    i ∈ (buildDemand n k b cm before after).unserved ↔
      (∃ r, after[i].record = some r ∧ r.target.kind = .passFlow ∧ r.life ≠ .quarantined) ∧
        ∀ c ∈ (buildDemand n k b cm before after).contributions, c.slot ≠ i := by
  rw [mem_unserved, isLiveFlow_iff, contributionOf_eq_none (n := n) (k := k) (before := before)]

end demand

/-- Settles O23: each list of the demand set by its membership, read off the records after the write-back. -/
theorem demandSetNamesTheServedRecords : Obligations.DemandSetNamesTheServedRecords := by
  intro k s hg
  refine ⟨_, _, exec_afterEdge hg, s.afterEdge_demand k, fun c => ?_, ?_, fun i => ?_, fun p => ⟨?_, ?_, ?_⟩⟩
  · refine Iff.trans ?_ (s.afterEdge_exists k ?_ _).symm
    · rw [State.afterEdge_flow, Apportioner.take_binding_live, Apportioner.take_live, State.edgeDemand, mem_contributions,
        contributionOf_eq]
      exact and_iff_right rfl
    · exact fun _ _ => Iff.rfl
  · exact contributions_pairwise
  · refine Iff.trans ?_ (s.afterEdge_exists k ?_ _).symm
    · rw [State.edgeDemand, mem_unserved_iff]
      simp only [← and_assoc, exists_and_right]
    · exact fun _ _ => Iff.rfl
  · exact buildDemand_requests0 p
  · exact buildDemand_requests1 p
  · refine forcedSet_iff.trans (exists_congr fun i => (s.afterEdge_exists k ?_ _).symm)
    exact fun _ _ => Iff.rfl

/-! ## O24: the pause claims -/

theorem isHeldPause_iff {sl : Slot} :
    isHeldPause sl = true ↔ ∃ r, sl.record = some r ∧ r.life = .quarantined ∧ r.target.kind = .unitPause := by
  rw [isHeldPause, Bool.and_eq_true, holdsPause_iff, Option.isSome_iff_exists]
  simp only [Slot.recordIn_eq]
  constructor
  · rintro ⟨⟨r, hr, hkind⟩, x, hx, hlife⟩
    obtain rfl := Option.some.inj (hr.symm.trans hx)
    exact ⟨r, hr, hlife, hkind⟩
  · rintro ⟨r, hr, hlife, hkind⟩
    exact ⟨⟨r, hr, hkind⟩, r, hr, hlife⟩

theorem Slot.recordIn_isSome_eq_false {sl : Slot} {l : Life} :
    (!(sl.recordIn l).isSome) = true ↔ ∀ r, sl.record = some r → r.life ≠ l := by
  rw [Bool.not_eq_true', Option.isSome_eq_false_iff, Option.isNone_iff_eq_none, Option.eq_none_iff_forall_not_mem]
  exact forall_congr' fun r => (not_congr Slot.recordIn_eq).trans not_and

/-- R95: what makes a slot released. -/
theorem isReleased_iff {before after : Slot} :
    isReleased before after = true ↔
      (∃ r, before.record = some r ∧ r.target.kind = .unitPause) ∧
        ¬∃ r, after.record = some r ∧ (r.life = .active ∨ r.life = .quarantined) := by
  rw [isReleased, Bool.and_eq_true, Bool.and_eq_true, holdsPause_iff, Slot.recordIn_isSome_eq_false,
    Slot.recordIn_isSome_eq_false, and_assoc]
  refine and_congr_right fun _ => ?_
  push Not
  exact ⟨fun h r hr => ⟨h.1 r hr, h.2 r hr⟩, fun h => ⟨fun r hr => (h r hr).1, fun r hr => (h r hr).2⟩⟩

/-- Settles O24: the claims, the held and the released slots, read off the records after the write-back. -/
theorem demandSetNamesThePauseClaims : Obligations.DemandSetNamesThePauseClaims := by
  intro k s hg
  refine ⟨_, _, exec_afterEdge hg, s.afterEdge_demand k, fun c => ?_, ?_, fun i => ?_, fun i => ?_⟩
  · refine Iff.trans ?_ (s.afterEdge_exists k ?_ _).symm
    · rw [State.edgeDemand, mem_claims, pauseClaimOf_eq]
      exact and_iff_right rfl
    · exact fun _ _ => Iff.rfl
  · exact claims_pairwise
  · refine Iff.trans ?_ (s.afterEdge_exists k ?_ _).symm
    · rw [State.edgeDemand, mem_held, isHeldPause_iff]
    · exact fun _ _ => Iff.rfl
  · have hserving := s.afterEdge_exists k (P := fun r => r.life = .active ∨ r.life = .quarantined)
      (fun _ _ => Iff.rfl) i
    rw [State.edgeDemand, mem_release, isReleased_iff, ← hserving]
    push Not
    exact Iff.rfl

end Sys2Proof.Machine

namespace Sys2Proof.Machine

/-! ## O27: the served figures -/

/-! ### Floored shares of a grant (R115) -/

section shares
variable {α : Type} (flow : α → Nat) (g : Nat)

theorem sum_shares_mul_le (total : Nat) (l : List α) :
    (l.map fun a => flow a * g / total).sum * total ≤ (l.map flow).sum * g := by
  induction l with
  | nil => simp
  | cons a l ih =>
    simp only [List.map_cons, List.sum_cons, Nat.add_mul]
    exact Nat.add_le_add (Nat.div_mul_le_self _ _) ih

theorem add_length_le_sum_shares_mul {total : Nat} (h : 0 < total) (l : List α) :
    (l.map flow).sum * g + l.length ≤ (l.map fun a => flow a * g / total + 1).sum * total := by
  induction l with
  | nil => simp
  | cons a l ih =>
    have hfloor : flow a * g < (flow a * g / total + 1) * total := Nat.lt_mul_of_div_lt (Nat.lt_succ_self _) h
    simp only [List.map_cons, List.sum_cons, List.length_cons, Nat.add_mul _ _ total, Nat.add_mul _ _ g] at ih hfloor ⊢
    omega

variable {flow g}

/-- The shares that flows have in a grant, each floored, add up to no more than the grant. -/
theorem sum_shares_le {total : Nat} {l : List α} (ht : total = (l.map flow).sum) :
    (l.map fun a => flow a * g / total).sum ≤ g := by
  rcases Nat.eq_zero_or_pos total with h0 | hpos
  · simp [h0]
  · refine Nat.le_of_mul_le_mul_right ?_ hpos
    rw [Nat.mul_comm g, ht]
    exact sum_shares_mul_le flow g _ l

/-- What the flooring leaves of the grant is less than the number of the shares. -/
theorem lt_sum_shares {total : Nat} {l : List α} (ht : total = (l.map flow).sum) (hpos : 0 < total) :
    g < (l.map fun a => flow a * g / total + 1).sum := by
  have hlen : 0 < l.length := by
    cases l with
    | nil => simp [ht] at hpos
    | cons a l => exact Nat.succ_pos _
  have hsum := add_length_le_sum_shares_mul flow g hpos l
  rw [← ht, Nat.mul_comm total] at hsum
  exact Nat.lt_of_mul_lt_mul_right (a := total) (by omega)

end shares

/-! ### Where the write-back writes (R93) -/

@[simp] theorem Record.readStaged_body (r : Record) : r.readStaged.record.body = r.body := by
  rw [Record.readStaged_eq]

@[simp] theorem Record.readBody_body (r : Record) : r.readBody.record.body = r.body := by
  unfold Record.readBody; split <;> rfl

@[simp] theorem Record.readWhole_body (r : Record) : r.readWhole.record.body = r.body := by
  unfold Record.readWhole; dsimp only; split <;> simp

@[simp] theorem stepAmend_servedFlow (r : Record) : (stepAmend r).body.servedFlow = r.body.servedFlow := by
  unfold stepAmend; split <;> rfl

theorem Record.runsOn.servedFlow_eq {r r' : Record} (h : r.runsOn r') : r'.body.servedFlow = r.body.servedFlow := by
  obtain ⟨_, _, _, _, _, rfl, -⟩ := h; rfl

/-- The pass writes no served figure. -/
theorem passSlot_servedFlow {v : PassView} {sl : Slot} {x : Record} (h : (passSlot v sl).slot.record = some x) :
    ∃ r, sl.record = some r ∧ x.body.servedFlow = r.body.servedFlow := by
  obtain ⟨r, hr, hcase⟩ := passSlot_record h
  refine ⟨r, hr, ?_⟩
  rcases hcase with rfl | ⟨rfl, -⟩ | hrun
  · rfl
  · simp
  · simp [hrun.servedFlow_eq]

section written
variable {k : EdgeKind} {s : State} {i : SlotId}

/-- Where a figure is written, the record holds it over a clean body. -/
theorem State.afterEdge_written {r : Record} {n : Nat} (hr : (s.walkedSlots k)[i].record = some r)
    (hw : writtenFigure (s.edgeDemand k) (s.edgeRecord k) i = some n) :
    ∃ x, (s.afterEdge k).recordAt i = some x ∧ x.check = .clean ∧ x.body.servedFlow = some n :=
  ⟨_, by rw [State.afterEdge_recordAt, hr, hw]; rfl, rfl, rfl⟩

/-- Where none is, the record keeps the figure it had before the edge. -/
theorem State.afterEdge_unwritten {x : Record} (hx : (s.afterEdge k).recordAt i = some x)
    (hw : writtenFigure (s.edgeDemand k) (s.edgeRecord k) i = none) :
    ∃ y, s.recordAt i = some y ∧ x.body.servedFlow = y.body.servedFlow := by
  rw [State.afterEdge_recordAt, hw, Option.map_eq_some_iff] at hx
  obtain ⟨r, hr, rfl⟩ := hx
  rw [State.walkedSlots_get] at hr
  exact passSlot_servedFlow hr

end written

/-- Nothing is written into a slot on neither list. -/
theorem writtenFigure_of_neither {d : DemandSet} {i : SlotId} (r : IntervalRecord)
    (hc : ∀ c ∈ d.contributions, c.slot ≠ i) (hu : i ∉ d.unserved) : writtenFigure d r i = none := by
  have hfind : (d.contributions.find? fun c => c.slot = i) = none :=
    List.find?_eq_none.mpr fun c hm => by simpa using hc c hm
  rw [writtenFigure, hfind]
  exact if_neg hu

/-- Settles O27: the figures written are floored shares of the grant of their pass and tier. -/
theorem servedFiguresShareTheGrant : Obligations.ServedFiguresShareTheGrant := by
  intro k s hg
  refine ⟨_, _, _, exec_afterEdge hg, s.afterEdge_flow_record k, s.afterEdge_demand k, fun c hc => ?_, fun i hi => ?_,
    fun i x hx hc hu => State.afterEdge_unwritten hx (writtenFigure_of_neither _ hc hu),
    fun p => ⟨?_, ?_, ?_, ?_⟩⟩
  · have hof := mem_contributions.mp hc
    obtain ⟨-, r, hr, -⟩ := contributionOf_eq.mp hof
    have hfigure : writtenFigure (s.edgeDemand k) (s.edgeRecord k) c.slot =
        some (servedFigure (s.edgeDemand k) (s.edgeRecord k) c) := by
      rw [State.edgeDemand, writtenFigure_eq, hof]
    obtain ⟨x, hx, hclean, hserved⟩ := State.afterEdge_written hr hfigure
    exact ⟨x, _, hx, hclean, hserved, servedFigure_le _ _ _ c, rfl⟩
  · obtain ⟨hlive, hnone⟩ := mem_unserved.mp hi
    obtain ⟨r, hr, -⟩ := isLiveFlow_iff.mp hlive
    refine State.afterEdge_written hr ?_
    rw [State.edgeDemand, writtenFigure_eq, hnone]
    exact if_pos hlive
  · exact sum_shares_le (buildDemand_requests0 p)
  · exact lt_sum_shares (buildDemand_requests0 p)
  · exact sum_shares_le (buildDemand_requests1 p)
  · exact lt_sum_shares (buildDemand_requests1 p)

end Sys2Proof.Machine

namespace Sys2Proof.Machine

/-! ## O19: the slots that the pass frees, leaves or quarantines -/

/-! ### The pass at one slot (R80, R81, R90, R170) -/

section pass
variable {v : PassView} {sl : Slot} {r : Record}

theorem passSlot_of_free (h : sl.record = none) : passSlot v sl = quietEffect sl := by simp only [passSlot, h]

theorem passSlot_of_retired (hr : sl.record = some r) (hp : r.retirePending = true) :
    passSlot v sl = quietEffect sl.freed := by
  simp only [passSlot, hr, hp, if_true]

theorem passSlot_of_quarantined (hr : sl.record = some r) (hp : r.retirePending = false) (hq : r.life = .quarantined) :
    passSlot v sl = quietEffect sl := by
  simp only [passSlot, hr, hp, hq, Bool.false_eq_true, if_false, if_true]

theorem passSlot_of_uncorrectable (hr : sl.record = some r) (hp : r.retirePending = false) (hq : r.life ≠ .quarantined)
    (hc : r.check = .uncorrectable) :
    passSlot v sl =
      { slot := { generation := sl.generation, record := some { r with life := .quarantined, staged := none } }
        fixes := 0, quarantined := true, stageLost := false, nullified := false } := by
  have hread := (Record.readWhole_of_uncorrectable hc).trans (Record.readBody_of_uncorrectable hc)
  simp only [passSlot, hr, hp, hq, hread, Bool.false_eq_true, if_false, if_true]
  rfl

end pass

/-! ### RECORD_QUARANTINED at an edge (R170) -/

/-- The work after the walk quarantines nothing. -/
theorem State.serveEdge_recordQuarantined (d : DemandSet) (s : State) :
    (s.serveEdge d).causes.recordQuarantined = s.causes.recordQuarantined := by
  have hpause (t : State) : (t.pauseWork d).causes.recordQuarantined = t.causes.recordQuarantined := by
    rw [State.pauseWork, State.setCauseIf_recordQuarantined]
  have happortion (u : UnitOrderSet) (t : State) :
      (t.apportion d u).causes.recordQuarantined = t.causes.recordQuarantined := by
    simp only [State.apportion, State.raiseEdgeCauses, State.setCauseIf_recordQuarantined]
  have hsend (f : OrderFrame) (units : Vector UnitOrder 12) (r : IntervalRecord) (t : State) :
      ((t.handFrame f units).writeBack d r).causes = t.causes := by simp
  rw [State.serveEdge, hsend, happortion, hpause]

/-- The edge sets RECORD_QUARANTINED exactly where the pass at some slot quarantines its record. -/
theorem State.afterEdge_recordQuarantined (k : EdgeKind) (s : State) :
    (s.afterEdge k).causes.recordQuarantined = true ↔
      s.causes.recordQuarantined = true ∨ ∃ i : SlotId, (passSlot (s.edgeView k) s.slots[i]).quarantined = true := by
  have halert (t : State) : t.driveAlert.causes.recordQuarantined = t.causes.recordQuarantined := rfl
  rw [State.afterEdge_causes, State.edgeWork, halert, State.serveEdge_recordQuarantined, State.passEdge, State.walk,
    State.foldEffects_recordQuarantined]
  simp only [indices, List.mem_finRange, true_and]
  exact Iff.rfl

/-- Settles O19: each case is that of the pass at the slot; nothing is then written into a FREE or QUARANTINED one. -/
theorem edgeFreesRetiredAndKeepsQuarantinedSlots : Obligations.EdgeFreesRetiredAndKeepsQuarantinedSlots := by
  intro k s hg
  have hslot {i : SlotId} {e : SlotEffect} (he : passSlot (s.edgeView k) s.slots[i] = e)
      (hx : ∀ x, e.slot.record = some x → x.life = .quarantined) : (s.afterEdge k).slots[i] = e.slot := by
    subst he
    exact edge_slot_of_unwritten k s i hx
  refine ⟨_, exec_afterEdge hg, fun i hr => ?_, fun i r hr hp => ?_, fun i r hr hp hq => ?_,
    fun i r hr hp hq hc => ⟨?_, ?_⟩, s.afterEdge_tagMap k⟩
  · exact hslot (passSlot_of_free hr) fun x hx => by cases hr.symm.trans hx
  · exact hslot (passSlot_of_retired hr hp) fun x hx => by cases hx
  · exact hslot (passSlot_of_quarantined hr hp hq) fun x hx => Option.some.inj (hr.symm.trans hx) ▸ hq
  · exact hslot (passSlot_of_uncorrectable hr hp hq hc) fun x hx => by cases hx; rfl
  · rw [State.afterEdge_recordQuarantined]
    exact .inr ⟨i, by rw [passSlot_of_uncorrectable hr hp hq hc]⟩

/-! ## O21: the records in service -/

/-! ### The pieces of the steps (R8, R88, R89, R91) -/

theorem guardMet_some (conditions : Vector Bool 8) (g : Guard) :
    guardMet conditions (some g) = true ↔ conditions[g.condition] = g.polarity := decide_eq_true_iff

theorem spanReached_iff {r : Record} :
    spanReached r = true ↔ 0 < r.body.length ∧ spanOf r.target r.body ≤ r.body.elapsed := by
  rw [spanReached, Bool.and_eq_true, decide_eq_true_iff, decide_eq_true_iff]

theorem spanReached_eq_false {r : Record} (h : r.body.length = 0 ∨ r.body.elapsed < spanOf r.target r.body) :
    spanReached r = false := by
  rw [← Bool.not_eq_true, spanReached_iff]
  omega

/-! Steps 4 to 9 by the state that the record had when the pass began (R80). -/

section life
variable {v : PassView} {r : Record}

theorem advance_of_staged (h : r.life = .staged) : advance v r = stepStaged v r := by rw [advance, h]
theorem advance_of_armed (h : r.life = .armed) : advance v r = stepArmed v r := by rw [advance, h]
theorem advance_of_pending (h : r.life = .pending) : advance v r = stepPending v true r := by rw [advance, h]
theorem advance_of_active (h : r.life = .active) : advance v r = stepActive v r := by rw [advance, h]
theorem advance_of_suspended (h : r.life = .suspended) : advance v r = stepSuspended v r := by rw [advance, h]
theorem advance_of_ended (h : r.life = .ended) : advance v r = .keep r := by rw [advance, h]
theorem advance_of_quarantined (h : r.life = .quarantined) : advance v r = .keep r := by rw [advance, h]

end life

section stepEnd
variable {r : Record}

theorem stepEnd_of_trigger (hleft : 0 < r.body.runsLeft) (hmode : r.body.startMode = .trigger) :
    stepEnd r =
      some { r with
        life := .armed
        body := { r.body with
          elapsed := 0, lead := 0, triggerSeen := r.body.triggerSeen.map fun _ => false
          runsLeft := if r.body.runsLeft = 255 then 255 else r.body.runsLeft - 1 } } := by
  by_cases h : r.body.runsLeft = 255 <;> simp [stepEnd, hleft, hmode, h, clearSeen, Config.unlimited]

theorem stepEnd_of_immediate (hleft : 0 < r.body.runsLeft) (hmode : r.body.startMode = .immediate) :
    stepEnd r =
      some { r with
        life := .pending
        body := { r.body with
          elapsed := 0, lead := r.body.startOffset
          runsLeft := if r.body.runsLeft = 255 then 255 else r.body.runsLeft - 1 } } := by
  by_cases h : r.body.runsLeft = 255 <;> simp [stepEnd, hleft, hmode, h, Config.unlimited]

theorem stepEnd_of_autoRelease (hleft : r.body.runsLeft = 0) (hauto : r.body.autoRelease = true) : stepEnd r = none := by
  simp [stepEnd, hleft, hauto]

theorem stepEnd_of_kept (hleft : r.body.runsLeft = 0) (hauto : r.body.autoRelease = false) :
    stepEnd r =
      some { r with
        life := .ended
        body := { r.body with lead := 0, triggerSeen := r.body.triggerSeen.map fun _ => false } } := by
  simp [stepEnd, hleft, hauto, clearSeen]

end stepEnd

section serving
variable {v : PassView} {r : Record}

/-- R88: the count reaches the span. -/
theorem advance_active_of_span (hl : r.life = .active) (hlength : 0 < r.body.length)
    (hspan : spanOf r.target r.body ≤ min (r.body.elapsed + 1) 65550) :
    (advance v r).record = stepEnd { r with body := { r.body with elapsed := min (r.body.elapsed + 1) 65550 } } := by
  have hreached : spanReached (r.withBody { r.body with elapsed := min (r.body.elapsed + 1) Config.maxElapsed }) = true :=
    spanReached_iff.mpr ⟨hlength, hspan⟩
  rw [advance_of_active hl, stepActive, if_pos hreached]
  rfl

/-- R88: the count is below the span, and the guard is compared. -/
theorem advance_active_of_before_span (hl : r.life = .active)
    (hspan : r.body.length = 0 ∨ min (r.body.elapsed + 1) 65550 < spanOf r.target r.body) :
    (advance v r).record =
      some { r with
        life := if guardMet v.conditions r.body.guard = true then .active else .suspended
        body := { r.body with elapsed := min (r.body.elapsed + 1) 65550 } } := by
  have hnot : spanReached (r.withBody { r.body with elapsed := min (r.body.elapsed + 1) Config.maxElapsed }) = false :=
    spanReached_eq_false hspan
  rw [advance_of_active hl, stepActive, if_neg (ne_true_of_eq_false hnot), ← hl, Record.withBody]
  by_cases h : guardMet v.conditions r.body.guard = true
  · rw [if_pos h, if_pos h]; rfl
  · rw [if_neg h, if_neg h]; rfl

/-- R89: the count stands at the span. -/
theorem advance_suspended_of_span (hl : r.life = .suspended) (hlength : 0 < r.body.length)
    (hspan : spanOf r.target r.body ≤ r.body.elapsed) : (advance v r).record = stepEnd r := by
  rw [advance_of_suspended hl, stepSuspended, if_pos (spanReached_iff.mpr ⟨hlength, hspan⟩)]

/-- R89: the count stands below the span, and the guard is compared. -/
theorem advance_suspended_of_before_span (hl : r.life = .suspended)
    (hspan : r.body.length = 0 ∨ r.body.elapsed < spanOf r.target r.body) :
    (advance v r).record =
      some { r with life := if guardMet v.conditions r.body.guard = true then .active else .suspended } := by
  rw [advance_of_suspended hl, stepSuspended, if_neg (ne_true_of_eq_false (spanReached_eq_false hspan)), ← hl]
  by_cases h : guardMet v.conditions r.body.guard = true
  · rw [if_pos h, if_pos h]; rfl
  · rw [if_neg h, if_neg h]; rfl

end serving

/-! ### What steps 4 to 9 leave in the slot -/

section advanced
variable {sl : Slot} {a : Advance} {r : Record} (v : Option Nat)

/-- The record that the steps leave stays in its slot. -/
theorem Slot.holds_advanced (ha : a.record = some { r with check := .clean }) :
    ((sl.advanced a).writeServed v).holds sl.generation r :=
  Slot.holds_writeServed (r := { r with check := .clean }) v (by rw [Slot.advanced, ha]) rfl

theorem Slot.holds_kept (ha : a = .keep { r with check := .clean }) :
    ((sl.advanced a).writeServed v).holds sl.generation r := by
  subst ha
  exact Slot.holds_advanced v rfl

/-- R91: where the steps come to step 9, the run of the record has ended. -/
theorem Slot.runEnded_advanced (ha : a.record = stepEnd { r with check := .clean }) :
    ((sl.advanced a).writeServed v).runEnded sl.generation r := by
  refine ⟨fun hleft hmode => ?_, fun hleft hmode => ?_, fun hleft hauto => ?_, fun hleft hauto => ?_⟩
  · exact Slot.holds_advanced v (ha.trans (stepEnd_of_trigger hleft hmode))
  · exact Slot.holds_advanced v (ha.trans (stepEnd_of_immediate hleft hmode))
  · have hfree : a.record = none := ha.trans (stepEnd_of_autoRelease hleft hauto)
    rw [Slot.advanced, hfree]
    cases v <;> rfl
  · exact Slot.holds_advanced v (ha.trans (stepEnd_of_kept hleft hauto))

end advanced

/-- Step 3 leaves a record without an amendment as its read does. -/
theorem Record.atStep3_of_unstaged {r : Record} (h : r.staged = none) : r.atStep3 = { r with check := .clean } := by
  have hread : r.stagedRead = none := by rw [Record.stagedRead, h]
  rw [Record.atStep3, Record.bodyAtStep3, hread]
  simp only [h]

/-- The slot after the edge: steps 4 to 9 act on the record with its body read. -/
theorem State.afterEdge_advanced (k : EdgeKind) {i : SlotId} {r : Record} {s : State} (hr : s.recordAt i = some r)
    (hp : r.passes) (hq : r.life ≠ .quarantined) :
    ∃ v, (s.afterEdge k).slots[i] =
      (s.slots[i].advanced (advance (s.edgeView k) { r with check := .clean })).writeServed v := by
  obtain ⟨hretire, hcheck, hstaged⟩ := hp
  refine ⟨writtenFigure (s.edgeDemand k) (s.edgeRecord k) i, ?_⟩
  rw [State.afterEdge_slot, passSlot_of_readable hr hretire hq hcheck, Record.atStep3_of_unstaged hstaged]

/-- Settles O21: steps 7, 8 and 9, and the ENDED record, which no step takes. -/
theorem edgeAdvancesServingRecords : Obligations.EdgeAdvancesServingRecords := by
  intro k i r s hg hr hp
  have hslot {life : Life} (hl : r.life = life) (hq : life ≠ .quarantined) := State.afterEdge_advanced k hr hp (hl ▸ hq)
  refine ⟨_, exec_afterEdge hg, fun hl hlength hspan => ?_, fun hl hspan => ?_, fun hl hlength hspan => ?_,
    fun hl hspan => ?_, fun hl => ?_⟩ <;>
    obtain ⟨v, hv⟩ := hslot hl (by decide) <;> rw [hv]
  · exact Slot.runEnded_advanced v (advance_active_of_span hl hlength hspan)
  · rw [State.afterEdge_latched]
    exact Slot.holds_advanced v (advance_active_of_before_span hl hspan)
  · exact Slot.runEnded_advanced v (advance_suspended_of_span hl hlength hspan)
  · rw [State.afterEdge_latched]
    exact Slot.holds_advanced v (advance_suspended_of_before_span hl hspan)
  · exact Slot.holds_kept v (advance_of_ended hl)

end Sys2Proof.Machine

namespace Sys2Proof.Machine

/-! ## O22: the records that are armed, counted and started -/

/-! ### The start of a record (R86, R87) -/

section start
variable {v : PassView} {r : Record}

theorem stepStart_of_met (h : guardMet v.conditions r.body.guard = true) :
    (stepStart v r).record = some { r with life := .active, body := { r.body with elapsed := 0 } } := by
  unfold stepStart
  split
  · rfl
  · next g hg =>
    rw [hg] at h
    rw [if_pos h]
    rfl

theorem stepStart_of_wait {g : Guard} (hg : r.body.guard = some g) (h : guardMet v.conditions (some g) = false)
    (hmode : g.mode = .wait) :
    (stepStart v r).record = some { r with life := .suspended, body := { r.body with elapsed := 0 } } := by
  simp only [stepStart, hg, h, hmode, Bool.false_eq_true, if_false]
  rfl

theorem stepStart_of_skip {g : Guard} (hg : r.body.guard = some g) (h : guardMet v.conditions (some g) = false)
    (hmode : g.mode = .skip) : (stepStart v r).record = stepEnd r := by
  simp only [stepStart, hg, h, hmode, Bool.false_eq_true, if_false]

/-- R8: the guard is a SKIP guard that the conditions do not meet. -/
def unmetSkip (conditions : Vector Bool 8) (guard : Option Guard) : Prop :=
  ∃ g, guard = some g ∧ g.mode = .skip ∧ conditions[g.condition] ≠ g.polarity

theorem stepStart_nullified : (stepStart v r).nullified = true ↔ unmetSkip v.conditions r.body.guard := by
  unfold unmetSkip
  cases hg : r.body.guard with
  | none => simp [stepStart, hg, Advance.keep]
  | some g =>
    by_cases hmet : guardMet v.conditions (some g) = true
    · have heq : v.conditions[g.condition] = g.polarity := (guardMet_some _ _).mp hmet
      simp only [stepStart, hg, hmet, if_true, Option.some.injEq, exists_eq_left', heq, ne_eq, not_true, and_false]
      exact iff_of_false Bool.false_ne_true id
    · have hne : v.conditions[g.condition] ≠ g.polarity := fun h => hmet ((guardMet_some _ _).mpr h)
      simp only [stepStart, hg, hmet, Option.some.injEq, exists_eq_left', ne_eq, hne, not_false_eq_true, and_true]
      cases g.mode <;> simp [Advance.keep]

/-- R86: a record that was PENDING has its lead counted. -/
theorem stepPending_true :
    stepPending v true r = stepPending v false { r with body := { r.body with lead := r.body.lead - 1 } } := rfl

theorem stepPending_of_waiting (h : 0 < r.body.lead) : stepPending v false r = .keep { r with life := .pending } :=
  if_neg h.ne'

theorem stepPending_of_start (h : r.body.lead = 0) : stepPending v false r = stepStart v { r with life := .pending } :=
  if_pos h

/-- A start is nullified where the lead is 0 and the guard is an unmet SKIP guard. -/
theorem stepPending_nullified :
    (stepPending v false r).nullified = true ↔ r.body.lead = 0 ∧ unmetSkip v.conditions r.body.guard := by
  rcases Nat.eq_zero_or_pos r.body.lead with h | h
  · rw [stepPending_of_start h, stepStart_nullified]
    exact (and_iff_right h).symm
  · rw [stepPending_of_waiting h]
    exact iff_of_false Bool.false_ne_true fun hn => h.ne' hn.1

end start

/-- R86, R87: where the steps come to the start of step 6 with the record `r`, it has been counted. -/
theorem Slot.counted_advanced {sl : Slot} {a : Advance} {v : PassView} {r : Record} (n : Option Nat)
    (ha : a = stepPending v false { r with check := .clean }) :
    ((sl.advanced a).writeServed n).counted sl.generation v.conditions r := by
  have hstart (hlead : r.body.lead = 0) : a = stepStart v { r with life := .pending, check := .clean } :=
    ha.trans (stepPending_of_start hlead)
  refine ⟨fun hlead => ?_, fun hlead hmet => ?_, fun g hlead hg hunmet hmode => ?_, fun g hlead hg hunmet hmode => ?_⟩
  · rw [ha]
    exact Slot.holds_kept n (stepPending_of_waiting hlead)
  all_goals rw [hstart hlead]
  · exact Slot.holds_advanced n (stepStart_of_met hmet)
  · exact Slot.holds_advanced n (stepStart_of_wait hg hunmet hmode)
  · exact Slot.runEnded_advanced (r := { r with life := .pending }) n (stepStart_of_skip hg hunmet hmode)

/-! ### What brings a record to its start (R83, R84) -/

theorem SensorLine.matchesLevel_iff {l : SensorLine} :
    l.matchesLevel = true ↔
      l.enable = true ∧ (l.mode = .high ∧ l.filter.level = true ∨ l.mode = .low ∧ l.filter.level = false) := by
  unfold SensorLine.matchesLevel
  rw [Bool.and_eq_true]
  refine and_congr_right fun _ => ?_
  cases l.mode <;> simp

/-- R84: the pass finds a body triggered by its latch or by its line's level. -/
theorem State.triggered_iff {k : EdgeKind} {s : State} {b : RecordBody} :
    triggered (s.edgeView k) b = true ↔ s.triggers b := by
  have hline (m : LineId) : (s.edgeView k).lines[m] = s.sensors[m].matchesLevel := mapTable_get _ _ _
  rw [triggered, Bool.or_eq_true, decide_eq_true_iff, State.triggers]
  refine or_congr_right ?_
  cases b.triggerLine with
  | none => simp
  | some m =>
    simp only [hline, SensorLine.matchesLevel_iff, Option.some.injEq, exists_eq_left']

section steps
variable {v : PassView} {r : Record}

theorem advance_staged_of_trigger (hl : r.life = .staged) (hmode : r.body.startMode = .trigger) :
    advance v r =
      .keep { r with
        life := .armed
        body := { r.body with
          runsLeft := r.body.repeats, lead := 0, triggerSeen := r.body.triggerSeen.map fun _ => false } } := by
  simp only [advance_of_staged hl, stepStaged, hmode]
  rfl

theorem advance_staged_of_immediate (hl : r.life = .staged) (hmode : r.body.startMode = .immediate) :
    advance v r =
      stepPending v false
        { r with
          life := .pending
          body := { r.body with runsLeft := r.body.repeats, lead := r.body.startOffset } } := by
  simp only [advance_of_staged hl, stepStaged, hmode]
  rfl

theorem advance_armed_of_triggered (hl : r.life = .armed) (h : triggered v r.body = true) :
    advance v r =
      stepPending v false
        { r with
          life := .pending
          body := { r.body with
            lead := r.body.startOffset, triggerSeen := r.body.triggerSeen.map fun _ => false } } := by
  rw [advance_of_armed hl, stepArmed, if_pos h]
  rfl

theorem advance_pending (hl : r.life = .pending) :
    advance v r = stepPending v false { r with body := { r.body with lead := r.body.lead - 1 } } := by
  rw [advance_of_pending hl, stepPending_true]

theorem advance_armed_of_untriggered (hl : r.life = .armed) (h : ¬triggered v r.body = true) :
    advance v r = .keep r := by
  rw [advance_of_armed hl, stepArmed, if_neg h]

end steps

/-! ### NULLIFIED at an edge (R87) -/

/-- Steps 7 and 8 start no record. -/
theorem stepActive_nullified (v : PassView) (r : Record) : (stepActive v r).nullified = false := by
  unfold stepActive
  dsimp only
  split
  · rfl
  · split <;> rfl

theorem stepSuspended_nullified (v : PassView) (r : Record) : (stepSuspended v r).nullified = false := by
  unfold stepSuspended
  split
  · rfl
  · split <;> rfl

/-- Steps 4 to 9 nullify a start exactly where the record comes to one and its guard is an unmet SKIP guard. -/
theorem State.advance_nullified {k : EdgeKind} {s : State} {r : Record} :
    (advance (s.edgeView k) r).nullified = true ↔
      s.starts r r.body ∧ unmetSkip (s.edgeView k).conditions r.body.guard := by
  have hnot {a : Advance} (ha : a.nullified = false)
      (hl : r.life ≠ .pending ∧ r.life ≠ .staged ∧ r.life ≠ .armed) :
      a.nullified = true ↔ s.starts r r.body ∧ unmetSkip (s.edgeView k).conditions r.body.guard := by
    simp [ha, State.starts, hl]
  cases hl : r.life with
  | staged =>
    cases hmode : r.body.startMode with
    | trigger =>
      rw [advance_staged_of_trigger hl hmode]
      simp [Advance.keep, State.starts, hl, hmode]
    | immediate =>
      rw [advance_staged_of_immediate hl hmode, stepPending_nullified]
      simp [State.starts, hl, hmode]
  | armed =>
    by_cases ht : triggered (s.edgeView k) r.body = true
    · rw [advance_armed_of_triggered hl ht, stepPending_nullified]
      simp [State.starts, hl, State.triggered_iff.mp ht]
    · have hnone : ¬s.triggers r.body := mt State.triggered_iff.mpr ht
      rw [advance_armed_of_untriggered hl ht]
      simp [Advance.keep, State.starts, hl, hnone]
  | pending =>
    rw [advance_pending hl, stepPending_nullified]
    simp [State.starts, hl, Nat.sub_eq_zero_iff_le]
  | active => exact hnot (by rw [advance_of_active hl, stepActive_nullified]) (by simp [hl])
  | suspended => exact hnot (by rw [advance_of_suspended hl, stepSuspended_nullified]) (by simp [hl])
  | ended => exact hnot (by rw [advance_of_ended hl]; rfl) (by simp [hl])
  | quarantined => exact hnot (by rw [advance_of_quarantined hl]; rfl) (by simp [hl])

/-- The pass reports a nullified start of a record that it takes beyond its read alone. -/
theorem passSlot_nullified {v : PassView} {sl : Slot} :
    (passSlot v sl).nullified = true ↔
      ∃ r, sl.record = some r ∧ r.retirePending = false ∧ r.life ≠ .quarantined ∧ r.check ≠ .uncorrectable ∧
        (advance v r.atStep3).nullified = true := by
  cases hr : sl.record with
  | none => simp [passSlot_of_free hr, quietEffect]
  | some r =>
    simp only [Option.some.injEq, exists_eq_left']
    by_cases hp : r.retirePending = true
    · simp [passSlot_of_retired hr hp, quietEffect, hp]
    have hp := Bool.eq_false_of_not_eq_true hp
    by_cases hq : r.life = .quarantined
    · simp [passSlot_of_quarantined hr hp hq, quietEffect, hq]
    by_cases hc : r.check = .uncorrectable
    · simp [passSlot_of_uncorrectable hr hp hq hc, hc]
    · simp [passSlot_of_readable hr hp hq hc, hp, hq, hc]

/-- R87: the pass reports a nullified start exactly where the edge nullifies that of the record there. -/
theorem State.passSlot_nullified_iff {k : EdgeKind} {s : State} {i : SlotId} :
    (passSlot (s.edgeView k) s.slots[i]).nullified = true ↔ s.nullifies (s.edgeView k).conditions i := by
  rw [passSlot_nullified]
  simp only [State.advance_nullified, unmetSkip, State.nullifies]
  refine exists_congr fun r => ?_
  simp only [← exists_and_left]
  exact Iff.rfl

theorem State.foldEffects_nullified (es : SlotId → SlotEffect) (l : List SlotId) (s : State) :
    (l.foldl (fun acc i => acc.noteEffect i (es i)) s).hasCause .nullified = true ↔
      s.hasCause .nullified = true ∨ ∃ i ∈ l, (es i).nullified = true := by
  induction l generalizing s with
  | nil => simp
  | cons i l ih =>
    have hone : (s.noteEffect i (es i)).hasCause .nullified = ((es i).nullified || s.hasCause .nullified) := by
      rw [State.noteEffect_hasCause (by decide)]
      simp
    rw [List.foldl_cons, ih, hone, Bool.or_eq_true, List.exists_mem_cons_iff, or_comm (a := (es i).nullified = true),
      or_assoc]

theorem State.walk_nullified (v : PassView) (s : State) :
    (s.walk v).hasCause .nullified = true ↔
      s.hasCause .nullified = true ∨ ∃ i : SlotId, (passSlot v s.slots[i]).nullified = true := by
  have hslots (slots : Vector Slot 64) : State.hasCause .nullified { s with slots := slots } = s.hasCause .nullified :=
    rfl
  simp only [State.walk, State.foldEffects_nullified, hslots, indices, List.mem_finRange, true_and]

/-- The edge sets NULLIFIED exactly where it nullifies the start of some record. -/
theorem State.afterEdge_nullified (k : EdgeKind) (s : State) :
    (s.afterEdge k).hasCause .nullified = true ↔
      s.hasCause .nullified = true ∨ ∃ i, s.nullifies (s.edgeView k).conditions i := by
  have hopen : State.hasCause .nullified { s.openEdge k with latched := (s.openEdge k).conditionsAt k } =
      s.hasCause .nullified := State.hasCause_congr rfl _
  rw [State.hasCause_congr (s.afterEdge_causes k), State.edgeWork, State.driveAlert_hasCause,
    State.serveEdge_hasCause (by decide), State.passEdge, State.walk_nullified, hopen]
  exact or_congr_right (exists_congr fun _ => State.passSlot_nullified_iff)

/-- Settles O22: steps 4, 5 and 6, and the starts that the pass reports nullified. -/
theorem edgeArmsCountsAndStartsRecords : Obligations.EdgeArmsCountsAndStartsRecords := by
  refine ⟨fun k s hg => ⟨_, exec_afterEdge hg, ?_⟩, fun conditions g => ⟨rfl, guardMet_some conditions g⟩,
    fun k i r s hg hr hp => ?_⟩
  · rw [State.afterEdge_latched]
    exact s.afterEdge_nullified k
  have hslot {life : Life} (hl : r.life = life) (hq : life ≠ .quarantined) := State.afterEdge_advanced k hr hp (hl ▸ hq)
  refine ⟨_, exec_afterEdge hg, fun hl hmode => ?_, fun hl hmode => ?_, fun hl ht => ?_, fun hl ht => ?_, fun hl => ?_⟩ <;>
    obtain ⟨v, hv⟩ := hslot hl (by decide) <;> rw [hv]
  · exact Slot.holds_kept v (advance_staged_of_trigger hl hmode)
  · rw [State.afterEdge_latched]
    exact Slot.counted_advanced v (advance_staged_of_immediate hl hmode)
  · rw [State.afterEdge_latched]
    exact Slot.counted_advanced v (advance_armed_of_triggered hl (State.triggered_iff.mpr ht))
  · exact Slot.holds_kept v (advance_armed_of_untriggered hl fun h => ht (State.triggered_iff.mp h))
  · rw [State.afterEdge_latched]
    exact Slot.counted_advanced v (advance_pending hl)

end Sys2Proof.Machine

/-! # Proofs of the flow apportionment

What an edge makes of the settings, the bindings and the flow (O18, O25, O26, O28, O29), of the unit orders and the order
frame (O32, O33), and what the requests that stage for it hold (O46). The record of the edge is read off `passFigures`,
pass by pass, and off `budgetOf` and `balance`; the pause block off what each step of its work leaves alone. -/

namespace Sys2Proof.Machine

/-! ## O18: the staged settings and the bindings -/

section binding
variable {a : Apportioner} {p : PassId}

/-- A staged binding is taken first. -/
theorem Apportioner.atGrant_binding_of_staged {k : Binding} {v : Nat} (h : a.bindings[p].staged = some (k, v)) :
    a.atGrant.bindings[p] = { live := k, setpoint := cutTo a.staged.passes[p].max v, pulse := false, staged := none } := by
  rw [Apportioner.atGrant_binding, Apportioner.applyStaged_binding, h]
  rfl

/-- With none staged a used pulse reverts to SCHEDULED. -/
theorem Apportioner.atGrant_binding_of_used (h : a.bindings[p].staged = none) (hlive : a.bindings[p].live = .manualPulse)
    (hpulse : a.bindings[p].pulse = true) :
    a.atGrant.bindings[p] =
      { live := .scheduled, setpoint := cutTo a.staged.passes[p].max a.bindings[p].setpoint, pulse := false,
        staged := none } := by
  rw [Apportioner.atGrant_binding, Apportioner.applyStaged_binding, h]
  exact if_pos ⟨hlive, hpulse⟩

/-- Every other binding stands, with its setpoint cut. -/
theorem Apportioner.atGrant_binding_of_kept (h : a.bindings[p].staged = none)
    (hkept : ¬(a.bindings[p].live = .manualPulse ∧ a.bindings[p].pulse = true)) :
    a.atGrant.bindings[p] =
      { a.bindings[p] with setpoint := cutTo a.staged.passes[p].max a.bindings[p].setpoint, staged := none } := by
  rw [Apportioner.atGrant_binding, Apportioner.applyStaged_binding, h]
  exact if_neg hkept

end binding

/-- The settings taken at the grant stand through the rest of the edge. -/
theorem State.afterEdge_settingsTaken (k : EdgeKind) (s : State) : settingsTaken s.flow (s.afterEdge k).flow := by
  rw [State.afterEdge_flow]
  exact s.flow.applyStaged_settingsTaken

/-- After the edge the binding that the grant settled has its pulse marked where it is MANUAL_PULSE (R106, R110). -/
theorem State.afterEdge_binding (k : EdgeKind) {s : State} {p : PassId} {b : PassBinding}
    (h : s.flow.atGrant.bindings[p] = b) :
    (s.afterEdge k).flow.bindings[p] = if b.live = .manualPulse then { b with pulse := true } else b := by
  rw [State.afterEdge_flow, Apportioner.take_binding, State.grantedFlow, h]

/-- Settles O18: the settings taken at the grant, and each binding by what was staged and by its pulse. -/
theorem edgeTakesStagedSettingsAndBindings : Obligations.EdgeTakesStagedSettingsAndBindings := by
  intro k s hg
  refine ⟨_, exec_afterEdge hg, s.afterEdge_settingsTaken k, fun p => ?_⟩
  refine ⟨?_, fun b v hstaged => ?_, fun hnone => ⟨?_, fun hlive hpulse => ?_, fun hlive hpulse => ?_, fun hlive => ?_⟩⟩
  · rw [State.afterEdge_binding k (Apportioner.atGrant_binding _ _)]
    split <;> exact PassBinding.settle_staged _
  · rw [State.afterEdge_binding k (Apportioner.atGrant_binding_of_staged hstaged)]
    split <;> simp_all
  · by_cases hused : s.flow.bindings[p].live = .manualPulse ∧ s.flow.bindings[p].pulse = true
    · rw [State.afterEdge_binding k (Apportioner.atGrant_binding_of_used hnone hused.1 hused.2)]
      rfl
    · rw [State.afterEdge_binding k (Apportioner.atGrant_binding_of_kept hnone hused)]
      split <;> rfl
  · rw [State.afterEdge_binding k (Apportioner.atGrant_binding_of_used hnone hlive hpulse)]
    exact ⟨rfl, rfl⟩
  · have hfresh : ¬(s.flow.bindings[p].live = .manualPulse ∧ s.flow.bindings[p].pulse = true) :=
      fun h => Bool.false_ne_true (hpulse.symm.trans h.2)
    rw [State.afterEdge_binding k (Apportioner.atGrant_binding_of_kept hnone hfresh), if_pos hlive]
    exact ⟨hlive, rfl⟩
  · rw [State.afterEdge_binding k (Apportioner.atGrant_binding_of_kept hnone fun h => hlive h.1), if_neg hlive]
    exact ⟨rfl, rfl⟩

end Sys2Proof.Machine

namespace Sys2Proof.Machine

/-! ## The figures of an edge's record -/

/-- The budget figures of the edge. -/
def State.edgeBudget (k : EdgeKind) (s : State) : Budget :=
  budgetOf s.grantedFlow.qUsed (passShare (s.edgeDemand k) s.grantedFlow)

theorem State.edgeRecord_passes (k : EdgeKind) (s : State) (p : PassId) :
    (s.edgeRecord k).passes[p] = passFigures (s.edgeDemand k) s.grantedFlow (s.edgeBudget k) p :=
  computeRecord_passes _ _ _ p

/-- The live settings of the grant stand through the rest of the edge. -/
theorem State.afterEdge_live (k : EdgeKind) (s : State) : (s.afterEdge k).flow.live = s.grantedFlow.live := by
  rw [State.afterEdge_flow, Apportioner.take_live]

/-- So do each pass's binding and setpoint. -/
theorem State.afterEdge_bound (k : EdgeKind) (s : State) (p : PassId) :
    (s.afterEdge k).flow.bindings[p].live = s.grantedFlow.bindings[p].live ∧
      (s.afterEdge k).flow.bindings[p].setpoint = s.grantedFlow.bindings[p].setpoint := by
  rw [State.afterEdge_flow, Apportioner.take_binding]
  split <;> exact ⟨rfl, rfl⟩

/-! ### The causes of the record (R109) -/

/-- The causes that the record raises. -/
def IntervalRecord.raises (r : IntervalRecord) : Sticky → Bool
  | .inflowStale => r.inflowStale
  | .lowRiver => r.lowRiver
  | .deficit => r.deficitRaised
  | .shortfall0 => r.shortfall0
  | .shortfall1 => r.shortfall1
  | _ => false

theorem State.raiseEdgeCauses_hasCause (r : IntervalRecord) (c : Sticky) (s : State) :
    (s.raiseEdgeCauses r).hasCause c = (r.raises c || s.hasCause c) := by
  unfold State.raiseEdgeCauses
  cases c <;> simp [State.setCauseIf_hasCause, IntervalRecord.raises]

/-- The pause block's work sets SHORT_ASSIGN alone (R134). -/
theorem State.pauseWork_hasCause {c : Sticky} (hc : c ≠ .shortAssign) (d : DemandSet) (s : State) :
    (s.pauseWork d).hasCause c = s.hasCause c := by
  rw [State.pauseWork, State.setCauseIf_hasCause, decide_eq_false hc.symm, Bool.and_false, Bool.false_or]
  exact State.hasCause_congr rfl c

/-- A cause that neither the pass nor the pause block's work sets is set at an edge exactly where its record raises it. -/
theorem State.afterEdge_raised {c : Sticky} (hc : c ∉ [Sticky.fixOverflow, .stageLost, .nullified, .shortAssign])
    (k : EdgeKind) (s : State) : (s.afterEdge k).hasCause c = (s.hasCause c || (s.edgeRecord k).raises c) := by
  simp only [List.mem_cons, List.not_mem_nil, or_false, not_or] at hc
  obtain ⟨hfix, hstage, hnull, hshort⟩ := hc
  have hpass : ((s.openEdge k).passEdge k).hasCause c = s.hasCause c :=
    State.edgePass_hasCause (by simp [hfix, hstage, hnull]) k s
  have hframe (f : OrderFrame) (units : Vector UnitOrder 12) (t : State) :
      (t.handFrame f units).hasCause c = t.hasCause c := State.hasCause_congr (by simp) c
  have hwrite (d : DemandSet) (r : IntervalRecord) (t : State) : (t.writeBack d r).hasCause c = t.hasCause c :=
    State.hasCause_congr (by simp) c
  have hflow (a : Apportioner) (t : State) : State.hasCause c { t with flow := a } = t.hasCause c :=
    State.hasCause_congr rfl c
  have hdemand (d : DemandSet) (t : State) : State.hasCause c { t with demand := some d } = t.hasCause c :=
    State.hasCause_congr rfl c
  rw [State.hasCause_congr (s.afterEdge_causes k), State.edgeWork, State.driveAlert_hasCause,
    show (s.openEdge k).slots = s.slots from rfl, State.demandOf_passEdge, State.serveEdge, hwrite, hframe,
    State.apportion, State.raiseEdgeCauses_hasCause, hflow, State.pauseWork_hasCause hshort, hdemand, hpass, Bool.or_comm]
  simp [State.unitOrderSet, State.edgeRecord, State.edgeOrders, State.edgePause]

/-! ### The passes (R107, R110, R111, R114) -/

section figures
variable {d : DemandSet} {a : Apportioner} {b : Budget} {p : PassId}

/-- A SCHEDULED pass that is not forced requests what its tiers do, capped to its maximum, tier 0 first. -/
theorem passShare_of_served (hf : d.forced[p] = false) (hb : a.bindings[p].live = .scheduled) :
    passShare d a p =
      { r0 := d.requests0[p], r1 := d.requests1[p], c0 := min d.requests0[p] a.live.passes[p].max,
        c1 := min d.requests1[p] (a.live.passes[p].max - min d.requests0[p] a.live.passes[p].max), fixed := 0,
        served := true } := by
  have hserved : isServed d.forced[p] a.bindings[p] = true := by simp only [isServed, hf, hb]; rfl
  have hfixed : fixedTarget a.live.passes[p].safe d.forced[p] a.bindings[p] = 0 := by simp only [fixedTarget, hf, hb]; rfl
  simp only [passShare, capped, hserved, hfixed, ↓reduceIte]

/-- Every other pass requests nothing. -/
theorem passShare_of_unserved (h : d.forced[p] = true ∨ a.bindings[p].live ≠ .scheduled) :
    passShare d a p =
      { r0 := 0, r1 := 0, c0 := 0, c1 := 0, fixed := fixedTarget a.live.passes[p].safe d.forced[p] a.bindings[p],
        served := false } := by
  have hserved : isServed d.forced[p] a.bindings[p] = false := by
    rcases h with h | h
    · simp only [isServed, h, Bool.not_true, Bool.and_false]
    · simp only [isServed, h, decide_false, Bool.false_and]
  simp only [passShare, capped, hserved, Bool.false_eq_true, ↓reduceIte, Nat.zero_min]

theorem fixedTarget_of_forced (safe : Nat) (x : PassBinding) : fixedTarget safe true x = safe := rfl

theorem fixedTarget_of_manual (safe : Nat) {x : PassBinding} (h : x.live = .manual ∨ x.live = .manualPulse) :
    fixedTarget safe false x = x.setpoint := by
  rcases h with h | h <;> simp [fixedTarget, h]

theorem fixedTarget_of_idle (safe : Nat) {x : PassBinding} (h : x.live = .idle) : fixedTarget safe false x = 0 := by
  simp [fixedTarget, h]

theorem grant_zero (w total : Nat) : grant w total 0 = 0 := Nat.le_zero.mp (grant_le w total 0)

theorem passFigures_of_served (hf : d.forced[p] = false) (hb : a.bindings[p].live = .scheduled) :
    (passFigures d a b p).r0 = d.requests0[p] ∧ (passFigures d a b p).r1 = d.requests1[p] ∧
      (passFigures d a b p).c0 = min (passFigures d a b p).r0 a.live.passes[p].max ∧
      (passFigures d a b p).c1 = min (passFigures d a b p).r1 (a.live.passes[p].max - (passFigures d a b p).c0) ∧
      (passFigures d a b p).target = (passFigures d a b p).g0 + (passFigures d a b p).g1 := by
  simp only [passFigures, passShare_of_served hf hb, ↓reduceIte, and_self]

theorem passFigures_of_unserved (h : d.forced[p] = true ∨ a.bindings[p].live ≠ .scheduled) :
    ((passFigures d a b p).r0 = 0 ∧ (passFigures d a b p).r1 = 0 ∧ (passFigures d a b p).c0 = 0 ∧
      (passFigures d a b p).c1 = 0 ∧ (passFigures d a b p).g0 = 0 ∧ (passFigures d a b p).g1 = 0) ∧
      (passFigures d a b p).target = fixedTarget a.live.passes[p].safe d.forced[p] a.bindings[p] := by
  simp only [passFigures, passShare_of_unserved h, grant_zero, Bool.false_eq_true, ↓reduceIte, and_self]

/-- R107: what a pass adds to M is its target, where it is forced, MANUAL or MANUAL_PULSE. -/
theorem passShare_fixed (d : DemandSet) (a : Apportioner) (b : Budget) (p : PassId) :
    (passShare d a p).fixed =
      if d.forced[p] = true ∨ a.bindings[p].live = .manual ∨ a.bindings[p].live = .manualPulse
      then (passFigures d a b p).target else 0 := by
  by_cases hserved : d.forced[p] = false ∧ a.bindings[p].live = .scheduled
  · obtain ⟨hf, hb⟩ := hserved
    rw [passShare_of_served hf hb, if_neg (by rw [hf, hb]; decide)]
  · have hunserved : d.forced[p] = true ∨ a.bindings[p].live ≠ .scheduled := by
      rwa [not_and_or, Bool.not_eq_false] at hserved
    rw [(passFigures_of_unserved hunserved).2, passShare_of_unserved hunserved]
    split
    next => rfl
    next hnot =>
      obtain ⟨hf, hmanual, hpulse⟩ :
          d.forced[p] = false ∧ a.bindings[p].live ≠ .manual ∧ a.bindings[p].live ≠ .manualPulse := by
        simpa only [not_or, Bool.not_eq_true] using hnot
      have hidle : a.bindings[p].live = .idle := by
        cases hb : a.bindings[p].live with
        | idle => rfl
        | manual => exact absurd hb hmanual
        | manualPulse => exact absurd hb hpulse
        | scheduled => exact absurd ⟨hf, hb⟩ hserved
      simp only [hf, fixedTarget_of_idle _ hidle]

end figures

/-! ## O25: the targets -/

theorem State.edgeRecord_m (k : EdgeKind) (s : State) :
    (s.edgeRecord k).m = passSum fun p => (passShare (s.edgeDemand k) s.grantedFlow p).fixed := rfl

/-- Settles O25: M pass by pass, then the figures of a pass by whether it is served. -/
theorem targetsFollowBindingAndForce : Obligations.TargetsFollowBindingAndForce := by
  intro k s hg
  refine ⟨_, s.edgeRecord k, s.edgeDemand k, exec_afterEdge hg, s.afterEdge_flow_record k, s.afterEdge_demand k, ?_, rfl,
    fun p => ?_⟩
  · rw [State.edgeRecord_m]
    refine congrArg passSum (funext fun p => ?_)
    rw [passShare_fixed _ _ (s.edgeBudget k) p, State.edgeRecord_passes]
    rfl
  · obtain ⟨hlive, hsetpoint⟩ := s.afterEdge_bound k p
    rw [State.edgeRecord_passes, State.afterEdge_live, hlive, hsetpoint]
    refine ⟨rfl, rfl, fun hf => ?_, fun hf hb => ?_, fun hf hb => ?_, fun h => (passFigures_of_unserved h).1,
      fun hf hb => ?_⟩
    · rw [(passFigures_of_unserved (.inl hf)).2, show (s.edgeDemand k).forced[p] = true from hf]
      exact fixedTarget_of_forced _ _
    · rw [(passFigures_of_unserved (.inr fun h => ?_)).2, show (s.edgeDemand k).forced[p] = false from hf]
      · exact fixedTarget_of_manual _ hb
      · rcases hb with hb | hb <;> cases hb.symm.trans h
    · rw [(passFigures_of_unserved (.inr fun h => ?_)).2, show (s.edgeDemand k).forced[p] = false from hf]
      · exact fixedTarget_of_idle _ hb
      · cases hb.symm.trans h
    · exact passFigures_of_served hf hb

/-! ## O26: the tiers -/

section grants
variable {w total c : Nat} {f g : PassId → Nat}

theorem grant_of_fits (h : total ≤ w) : grant w total c = c := if_pos h

theorem grant_of_scaled (h : w < total) : grant w total c = c * w / total := if_neg (Nat.not_le.mpr h)

/-- A figure that is 0 where the request is 0 has its whole sum at the passes that request. -/
theorem passSum_eq_sum_requesting (h : ∀ p, f p = 0 → g p = 0) :
    passSum g = (((indices 6).filter fun p => 0 < f p).map g).sum := by
  have hsplit := List.sum_map_filter_add_sum_map_filter_not (fun p => 0 < f p) g (indices 6)
  have hrest : (((indices 6).filter fun p => ¬0 < f p).map g).sum = 0 := by
    refine List.sum_eq_zero fun x hx => ?_
    obtain ⟨p, hp, rfl⟩ := List.mem_map.mp hx
    exact h p (by simpa using (List.mem_filter.mp hp).2)
  rw [hrest, Nat.add_zero] at hsplit
  exact hsplit.symm

/-- R112, R113: the grants of a tier never exceed its budget. -/
theorem sum_grants_le (w : Nat) (f : PassId → Nat) : passSum (fun p => grant w (passSum f) (f p)) ≤ w := by
  rcases Nat.lt_or_ge w (passSum f) with h | h
  · simp only [grant_of_scaled h]
    exact sum_shares_le rfl
  · simpa only [grant_of_fits h] using h

/-- What the flooring of a scaled tier leaves of its budget is less than the number of the passes that request in it. -/
theorem left_of_scaled_lt (h : w < passSum f) :
    w - passSum (fun p => grant w (passSum f) (f p)) < ((indices 6).filter fun p => 0 < f p).length := by
  have hfloor := lt_sum_shares (g := w) (passSum_eq_sum_requesting (f := f) fun _ => id) (Nat.zero_lt_of_lt h)
  rw [List.sum_map_add, List.map_const', List.sum_replicate, smul_eq_mul, Nat.mul_one] at hfloor
  have hle := sum_grants_le w f
  simp only [grant_of_scaled h] at hle ⊢
  rw [passSum_eq_sum_requesting (f := f) fun p hp => by rw [hp, Nat.zero_mul, Nat.zero_div]] at hle ⊢
  omega

/-- R112, R113: a tier of capped requests `f` shares the budget `w` by the grants `g`. -/
theorem tier_shares (hg : ∀ p, g p = grant w (passSum f) (f p)) :
    passSum g ≤ w ∧ (passSum f ≤ w → ∀ p, g p = f p) ∧
      (w < passSum f →
        w - passSum g < ((indices 6).filter fun p => 0 < f p).length ∧ ∀ p, g p = f p * w / passSum f) := by
  rw [show g = fun p => grant w (passSum f) (f p) from funext hg]
  exact ⟨sum_grants_le w f, fun h _ => grant_of_fits h, fun h => ⟨left_of_scaled_lt h, fun _ => grant_of_scaled h⟩⟩

end grants

/-- The budget figures of a record in terms of its passes (R110 to R113). -/
structure IntervalRecord.Shared (r : IntervalRecord) : Prop where
  d0 : r.d0 = passSum fun p => r.passes[p].c0
  g0 : r.g0 = passSum fun p => r.passes[p].g0
  d1 : r.d1 = passSum fun p => r.passes[p].c1
  g1 : r.g1 = passSum fun p => r.passes[p].g1
  grant0 : ∀ p : PassId, r.passes[p].g0 = grant r.w0 r.d0 r.passes[p].c0
  grant1 : ∀ p : PassId, r.passes[p].g1 = grant r.w1 r.d1 r.passes[p].c1
  w0 : r.w0 = r.qUsed - r.m
  w1 : r.w1 = r.w0 - r.g0
  residue : r.residue = if r.d1 ≤ r.w1 then 0 else r.w1 - r.g1
  shortfall0 : r.shortfall0 = decide (r.w0 < r.d0)
  shortfall1 : r.shortfall1 = decide (r.w1 < r.d1)

theorem computeRecord_shared (d : DemandSet) (u : UnitOrderSet) (a : Apportioner) : (computeRecord d u a).Shared where
  d0 := by simp only [computeRecord_passes]; simp only [computeRecord, budgetOf, passFigures]
  g0 := by simp only [computeRecord_passes]; simp only [computeRecord, budgetOf, passFigures]
  d1 := by simp only [computeRecord_passes]; simp only [computeRecord, budgetOf, passFigures]
  g1 := by simp only [computeRecord_passes]; simp only [computeRecord, budgetOf, passFigures]
  grant0 p := by rw [computeRecord_passes]; simp only [computeRecord, passFigures]
  grant1 p := by rw [computeRecord_passes]; simp only [computeRecord, passFigures]
  w0 := by simp only [computeRecord, budgetOf]
  w1 := by simp only [computeRecord, budgetOf]
  residue := by simp only [computeRecord, budgetOf]; rfl
  shortfall0 := by simp only [computeRecord]; rfl
  shortfall1 := by simp only [computeRecord]; rfl

/-- Settles O26: each tier shares its budget, and the record raises the shortfall of one that does not fit. -/
theorem tiersShareTheBudget : Obligations.TiersShareTheBudget := by
  intro k s hg
  refine ⟨_, s.edgeRecord k, exec_afterEdge hg, s.afterEdge_flow_record k, ?_⟩
  have hcause0 : (s.afterEdge k).hasCause .shortfall0 = (s.hasCause .shortfall0 || (s.edgeRecord k).shortfall0) :=
    State.afterEdge_raised (by decide) k s
  have hcause1 : (s.afterEdge k).hasCause .shortfall1 = (s.hasCause .shortfall1 || (s.edgeRecord k).shortfall1) :=
    State.afterEdge_raised (by decide) k s
  obtain ⟨hd0, hg0, hd1, hg1, hgrant0, hgrant1, hw0, hw1, hresidue, hshort0, hshort1⟩ : (s.edgeRecord k).Shared :=
    computeRecord_shared _ _ _
  generalize s.edgeRecord k = r at *
  obtain ⟨hle0, hfits0, hscaled0⟩ := tier_shares fun p => hd0 ▸ hgrant0 p
  obtain ⟨hle1, hfits1, hscaled1⟩ := tier_shares fun p => hd1 ▸ hgrant1 p
  rw [← hd0] at hfits0 hscaled0
  rw [← hd1] at hfits1 hscaled1
  rw [← hg0] at hle0 hscaled0
  rw [← hg1] at hle1 hscaled1
  refine ⟨hd0, hg0, hd1, hg1, hle0, hw1, by omega, fun h => ?_, fun h => ?_, fun h => ?_, fun h => ?_⟩
  · rw [hcause0, hshort0, decide_eq_false (Nat.not_lt.mpr h)]
    exact ⟨rfl, Bool.or_false _, hfits0 h⟩
  · rw [hcause0, hshort0, decide_eq_true h]
    exact ⟨rfl, Bool.or_true _, hscaled0 h⟩
  · rw [hcause1, hshort1, decide_eq_false (Nat.not_lt.mpr h), hresidue, if_pos h]
    exact ⟨rfl, Bool.or_false _, rfl, hfits1 h⟩
  · rw [hcause1, hshort1, decide_eq_true h, hresidue, if_neg (Nat.not_le.mpr h)]
    exact ⟨rfl, Bool.or_true _, rfl, hscaled1 h⟩

end Sys2Proof.Machine

namespace Sys2Proof.Machine

/-! ## O28: the delivered setpoints -/

section ramp
variable {up down prev target m : Nat}

theorem ramp_of_eq (h : target = prev) : ramp up down prev target = prev := by
  rw [ramp, if_neg (by omega), if_neg (by omega)]

theorem ramp_of_lt (h : prev < target) :
    ramp up down prev target = if up = 0 then target else min target (prev + up) :=
  if_pos h

theorem ramp_of_gt (h : target < prev) :
    ramp up down prev target = if down = 0 then target else max target (prev - down) := by
  rw [ramp, if_neg (by omega), if_pos h]

/-- A ramp step stays within a limit of both its ends. -/
theorem ramp_le (hprev : prev ≤ m) (htarget : target ≤ m) : ramp up down prev target ≤ m := by
  unfold ramp
  repeat' split
  all_goals omega

end ramp

section delivered
variable {k : EdgeKind} {style : HoldStyle} {x : PassSettings} {prev target : Nat} {forced : Bool}

theorem newDelivered_of_forced (h : forced = true) : newDelivered k style forced x prev target = x.safe := if_pos h

theorem newDelivered_of_safeHold (hk : k = .holdEntry) (hs : style = .safe) :
    newDelivered k style forced x prev target = x.safe := by
  unfold newDelivered
  split
  · rfl
  · exact if_pos ⟨hk, hs⟩

theorem newDelivered_of_ramped (hf : forced = false) (h : k ≠ .holdEntry ∨ style = .keep) :
    newDelivered k style forced x prev target =
      ramp x.rampUp x.rampDown (min (if k = .start then x.safe else prev) x.max) target := by
  have hramped : ¬(k = .holdEntry ∧ style = .safe) := by
    rintro ⟨rfl, rfl⟩
    rcases h with h | h
    · exact h rfl
    · cases h
  rw [newDelivered, if_neg (by rw [hf]; nofun), if_neg hramped]

theorem newDelivered_le (hsafe : x.safe ≤ x.max) (htarget : target ≤ x.max) :
    newDelivered k style forced x prev target ≤ x.max := by
  unfold newDelivered
  split
  · exact hsafe
  · split
    · exact hsafe
    · exact ramp_le (min_le_right _ _) htarget

end delivered

/-- With its safe value and its setpoint within its maximum, so is the target of a pass (R107, R111, R114). -/
theorem passFigures_target_le {d : DemandSet} {a : Apportioner} {b : Budget} {p : PassId}
    (hsafe : a.live.passes[p].safe ≤ a.live.passes[p].max) (hset : a.bindings[p].setpoint ≤ a.live.passes[p].max) :
    (passFigures d a b p).target ≤ a.live.passes[p].max := by
  by_cases hserved : d.forced[p] = false ∧ a.bindings[p].live = .scheduled
  · obtain ⟨hf, hb⟩ := hserved
    obtain ⟨-, -, hc0, hc1, htarget⟩ := passFigures_of_served (b := b) hf hb
    have hg0 : (passFigures d a b p).g0 ≤ (passFigures d a b p).c0 := grant_le _ _ _
    have hg1 : (passFigures d a b p).g1 ≤ (passFigures d a b p).c1 := grant_le _ _ _
    rw [htarget]
    omega
  · rw [not_and_or, Bool.not_eq_false] at hserved
    rw [(passFigures_of_unserved hserved).2]
    unfold fixedTarget
    split
    · exact hsafe
    · split
      · exact hset
      · exact hset
      · exact Nat.zero_le _
      · exact Nat.zero_le _

/-- The delivered setpoint of the record, from the one before (R117, R118). -/
theorem State.edgeRecord_delivered (k : EdgeKind) (s : State) (p : PassId) :
    (s.edgeRecord k).passes[p].delivered =
      newDelivered k s.grantedFlow.live.style (s.edgeRecord k).passes[p].forced s.grantedFlow.live.passes[p]
        s.flow.delivered[p] (s.edgeRecord k).passes[p].target := by
  rw [State.edgeRecord_passes]
  rfl

theorem State.edgeRecord_style (k : EdgeKind) (s : State) :
    (s.edgeRecord k).styleApplied = if k = .holdEntry then some s.grantedFlow.live.style else none := rfl

/-- Settles O28: `newDelivered` by its cases, and its limits by those of the settings that the grant leaves. -/
theorem deliveredSetpointIsRamped : Obligations.DeliveredSetpointIsRamped := by
  intro k p s hg
  have hdelivered : (s.afterEdge k).flow.delivered[p] = (s.edgeRecord k).passes[p].delivered := by
    rw [State.afterEdge_flow, Apportioner.take_delivered]
  refine ⟨_, s.edgeRecord k, exec_afterEdge hg, s.afterEdge_flow_record k, hdelivered, ?_⟩
  rw [hdelivered, State.edgeRecord_delivered, State.edgeRecord_style, State.afterEdge_live]
  refine ⟨fun hs => ?_, newDelivered_of_forced, fun hk hstyle => ⟨newDelivered_of_safeHold hk hstyle, ?_⟩,
    fun hk => if_neg hk, ?_⟩
  · obtain ⟨hflow, -, -⟩ := State.settingsInRange_iff.mp hs
    obtain ⟨⟨⟨-, -, -, hpasses, -, -⟩, -, hbindings, -, -⟩, -⟩ := Apportioner.inRange_atGrant hflow
    obtain ⟨-, -, -, hsafe⟩ := hpasses p
    obtain ⟨hset, -⟩ := hbindings p
    have htarget : (s.edgeRecord k).passes[p].target ≤ s.grantedFlow.live.passes[p].max := by
      rw [State.edgeRecord_passes]
      exact passFigures_target_le hsafe hset
    exact ⟨htarget, newDelivered_le hsafe htarget⟩
  · rw [if_pos hk, hstyle]
  · rintro prev hprev hf hk
    rw [newDelivered_of_ramped hf hk, ← hprev]
    exact ⟨ramp_of_eq, ramp_of_lt, ramp_of_gt⟩

/-! ## O29: the balance -/

section balance
variable {q d residual rCap : Nat}

/-- R120: where D is at most Q_used nothing is short, and the flows add up to Q_used. -/
theorem balance_of_covered (h : d ≤ q) :
    balance q d residual rCap =
      { tCeil := q - max d residual, tt := min (q - max d residual) rCap,
        spill := q - d - min (q - max d residual) rCap, deficit := 0 } :=
  if_pos h

/-- R121: where D is above Q_used. -/
theorem balance_of_short (h : q < d) :
    balance q d residual rCap =
      { tCeil := if q < residual then 0 else Config.deficitCeiling q d residual, tt := 0, spill := 0, deficit := d - q } :=
  if_neg (Nat.not_le.mpr h)

/-- R120: below the residual floor the turbines get nothing. -/
theorem balance_of_low (h : q < residual) : (balance q d residual rCap).tCeil = 0 ∧ (balance q d residual rCap).tt = 0 := by
  rcases Nat.lt_or_ge q d with hd | hd
  · rw [balance_of_short hd]
    exact ⟨if_pos h, rfl⟩
  · rw [balance_of_covered hd]
    dsimp only
    omega

/-- R120, R121: the river keeps the residual floor, or all of Q_used. -/
theorem balance_keeps_residual : min q residual ≤ d + (balance q d residual rCap).spill := by
  rcases Nat.lt_or_ge q d with hd | hd
  · omega
  · rw [balance_of_covered hd]
    dsimp only
    omega

end balance

/-- The balance of a record (R120, R121). -/
structure IntervalRecord.Balanced (r : IntervalRecord) (residual : Nat) : Prop where
  d : r.d = passSum fun p => r.passes[p].delivered
  tCeil : r.tCeil = (balance r.qUsed r.d residual r.rCap).tCeil
  tt : r.tt = (balance r.qUsed r.d residual r.rCap).tt
  spill : r.spill = (balance r.qUsed r.d residual r.rCap).spill
  deficit : r.deficit = (balance r.qUsed r.d residual r.rCap).deficit
  lowRiver : r.lowRiver = decide (r.qUsed < residual)
  deficitRaised : r.deficitRaised = decide (r.qUsed < r.d)

theorem computeRecord_balanced (d : DemandSet) (u : UnitOrderSet) (a : Apportioner) :
    (computeRecord d u a).Balanced a.live.residual where
  d := by simp only [computeRecord]
  tCeil := by simp only [computeRecord]
  tt := by simp only [computeRecord]
  spill := by simp only [computeRecord]
  deficit := by simp only [computeRecord]
  lowRiver := by simp only [computeRecord]; rfl
  deficitRaised := by simp only [computeRecord]; rfl

/-- Settles O29: `balance` by its two cases, and the causes that the record raises. -/
theorem edgeBalancesTheRiver : Obligations.EdgeBalancesTheRiver := by
  intro k s hg
  refine ⟨_, s.edgeRecord k, exec_afterEdge hg, s.afterEdge_flow_record k, ?_⟩
  have hlow : (s.afterEdge k).hasCause .lowRiver = (s.hasCause .lowRiver || (s.edgeRecord k).lowRiver) :=
    State.afterEdge_raised (by decide) k s
  have hdeficit : (s.afterEdge k).hasCause .deficit = (s.hasCause .deficit || (s.edgeRecord k).deficitRaised) :=
    State.afterEdge_raised (by decide) k s
  obtain ⟨hd, htceil, htt, hspill, hgap, hlowRiver, hraised⟩ :
      (s.edgeRecord k).Balanced s.grantedFlow.live.residual := computeRecord_balanced _ _ _
  rw [State.afterEdge_live]
  generalize s.edgeRecord k = r at *
  refine ⟨hd, fun h => ?_, fun h => ?_, fun h => ?_, ?_, hlowRiver, hlow, hdeficit⟩
  · rw [balance_of_covered h] at htceil htt hspill hgap
    dsimp only at htceil htt hspill hgap
    refine ⟨htceil, by rw [htt, htceil], by rw [hspill, htt], hgap, ?_, by omega⟩
    rw [hraised, decide_eq_false (Nat.not_lt.mpr h)]
  · rw [balance_of_short h] at htt hspill hgap
    rw [hdeficit, hraised, decide_eq_true h, Bool.or_true]
    exact ⟨htt, hspill, hgap, rfl, rfl⟩
  · rw [htceil, htt]
    exact balance_of_low h
  · rw [hspill]
    exact balance_keeps_residual

end Sys2Proof.Machine

namespace Sys2Proof.Machine

/-! ## The pause block after an edge -/

/-- The pause block's work, with the order lines set where the order frame begins at once (R129, R139). -/
theorem State.afterEdge_pause (k : EdgeKind) (s : State) :
    (s.afterEdge k).pause =
      if s.out.sending.isNone then
        { s.edgePause k with lines := mapTable (fun _ u => orderLines u.order) (s.edgeOrders k).units }
      else s.edgePause k := by
  have hpause : (s.afterEdge k).pause = (s.edgeWork k).pause := by simp [State.afterEdge]
  rw [hpause, (s.edgeWork_pause_out k).1]

theorem State.afterEdge_out (k : EdgeKind) (s : State) :
    (s.afterEdge k).out =
      if s.out.sending.isNone then
        { s.out with sending := some (orderFrame (s.edgeRecord k)), waitOrder := none, sentSinceStart := true }
      else { s.out with waitOrder := some (orderFrame (s.edgeRecord k), (s.edgeOrders k).units) } := by
  have hout : (s.afterEdge k).out = (s.edgeWork k).out := by simp [State.afterEdge]
  rw [hout, (s.edgeWork_pause_out k).2]

/-- Setting the order lines changes the lines alone. -/
theorem State.afterEdge_pause_frame (k : EdgeKind) (s : State) :
    (s.afterEdge k).pause = { s.edgePause k with lines := (s.afterEdge k).pause.lines } := by
  rw [State.afterEdge_pause]
  generalize s.edgePause k = p
  split <;> rfl

/-! ### The rotation tables and the pointer (R137) -/

theorem PauseBlock.applyReport_rotation (p : PauseBlock) :
    p.applyReport.live = p.live ∧ p.applyReport.shadow = p.shadow ∧ p.applyReport.pointer = p.pointer ∧
      p.applyReport.loadPending = p.loadPending := by
  unfold PauseBlock.applyReport
  split <;> exact ⟨rfl, rfl, rfl, rfl⟩

theorem PauseBlock.applyLoad_rotation (p : PauseBlock) :
    p.applyLoad.live = (if p.loadPending then p.shadow else p.live) ∧ p.applyLoad.shadow = p.shadow ∧
      p.applyLoad.pointer = p.walkStart ∧ p.applyLoad.loadPending = false := by
  unfold PauseBlock.applyLoad PauseBlock.walkStart
  split
  · exact ⟨rfl, rfl, rfl, rfl⟩
  · exact ⟨rfl, rfl, rfl, Bool.eq_false_of_not_eq_true ‹_›⟩

/-- Without an ANY claim no walk is made (R133). -/
theorem serveAny_foldl_of_no_any {claims : List PauseClaim} (h : ∀ c ∈ claims, c.target ≠ .any)
    (av : Vector Availability 12) (live : Vector (Option UnitId) 32) (x : Service) :
    claims.foldl (serveAny av live) x = x := by
  induction claims with
  | nil => rfl
  | cons c claims ih =>
    obtain ⟨hc, hrest⟩ := List.forall_mem_cons.mp h
    have hone : serveAny av live x c = x := by
      unfold serveAny
      split
      · exact absurd ‹_› hc
      · rfl
    rw [List.foldl_cons, hone, ih hrest]

/-- The steps after the load leave the tables, and the pointer where no walk is made. -/
theorem PauseBlock.claimWork_rotation (d : DemandSet) (ratings : Vector Nat 12) (p : PauseBlock) :
    ((((p.release d).advancePhases).serve d.claims).publish ratings).live = p.live ∧
      ((((p.release d).advancePhases).serve d.claims).publish ratings).shadow = p.shadow ∧
      ((((p.release d).advancePhases).serve d.claims).publish ratings).loadPending = p.loadPending ∧
      ((∀ c ∈ d.claims, c.target ≠ .any) →
        ((((p.release d).advancePhases).serve d.claims).publish ratings).pointer = p.pointer) := by
  simp only [PauseBlock.publish, PauseBlock.serve, PauseBlock.advancePhases, PauseBlock.release, PauseBlock.withLists,
    true_and]
  exact fun hany => congrArg Service.pointer (serveAny_foldl_of_no_any hany _ _ _)

/-- What an edge makes of the rotation tables, and of the pointer where no walk is made. -/
theorem PauseBlock.atEdge_rotation (d : DemandSet) (ratings : Vector Nat 12) (p : PauseBlock) :
    (p.atEdge d ratings).live = (if p.loadPending then p.shadow else p.live) ∧
      (p.atEdge d ratings).shadow = p.shadow ∧ (p.atEdge d ratings).loadPending = false ∧
      ((∀ c ∈ d.claims, c.target ≠ .any) → (p.atEdge d ratings).pointer = p.walkStart) := by
  obtain ⟨hlive, hshadow, hpointer, hpending⟩ := p.applyReport_rotation
  obtain ⟨hlive', hshadow', hpointer', hpending'⟩ := p.applyReport.applyLoad_rotation
  rw [hpending, hshadow, hlive] at hlive'
  have hwalk : p.applyReport.walkStart = p.walkStart := by
    rw [PauseBlock.walkStart, hpending, hpointer, PauseBlock.walkStart]
  obtain ⟨hlive'', hshadow'', hpending'', hpointer''⟩ := p.applyReport.applyLoad.claimWork_rotation d ratings
  exact ⟨hlive''.trans hlive', hshadow''.trans (hshadow'.trans hshadow), hpending''.trans hpending',
    fun hany => (hpointer'' hany).trans (hpointer'.trans hwalk)⟩

/-! ### The unit order set (R119, R135) -/

theorem assigned_iff {lists : Lists} {u : UnitId} :
    assigned lists u = true ↔ ∃ i : SlotId, ∃ a ∈ lists[i], a.unit = u := by
  simp only [assigned, List.any_eq_true, Vector.mem_toList_iff, decide_eq_true_eq, Vector.mem_iff_getElem]
  constructor
  · rintro ⟨l, ⟨i, hi, rfl⟩, a, ha, hu⟩
    exact ⟨⟨i, hi⟩, a, ha, hu⟩
  · rintro ⟨i, a, ha, hu⟩
    exact ⟨_, ⟨i.val, i.isLt, rfl⟩, a, ha, hu⟩

theorem assigned_eq_false {lists : Lists} {u : UnitId} :
    assigned lists u = false ↔ ∀ (i : SlotId), ∀ a ∈ lists[i], a.unit ≠ u := by
  rw [← Bool.not_eq_true, assigned_iff]
  simp only [not_exists, not_and]

theorem unitOf_of_unassigned {lists : Lists} {u : UnitId} (h : assigned lists u = false) : unitOf lists u = none := by
  refine List.findSome?_eq_none_iff.mpr fun i _ => ?_
  rw [Option.map_eq_none_iff, List.find?_eq_none]
  exact fun a ha => by simpa using assigned_eq_false.mp h i a ha

theorem unitOf_of_assigned {lists : Lists} {u : UnitId} (h : assigned lists u = true) :
    ∃ i a, unitOf lists u = some (i, a) ∧ a ∈ lists[i] ∧ a.unit = u := by
  obtain ⟨i, a, ha, hu⟩ := assigned_iff.mp h
  have hsome : (unitOf lists u).isSome = true := by
    rw [unitOf, List.findSome?_isSome_iff]
    exact ⟨i, List.mem_finRange i, by rw [Option.isSome_map, List.find?_isSome]; exact ⟨a, ha, decide_eq_true hu⟩⟩
  obtain ⟨⟨j, b⟩, hj⟩ := Option.isSome_iff_exists.mp hsome
  obtain ⟨j', -, hfind⟩ := List.exists_of_findSome?_eq_some hj
  obtain ⟨b', hb', heq⟩ := Option.map_eq_some_iff.mp hfind
  cases heq
  exact ⟨j, b, hj, List.mem_of_find?_eq_some hb', by simpa using List.find?_some hb'⟩

theorem unitOrders_availability (av : Vector Availability 12) (lists : Lists) (u : UnitId) :
    (unitOrders av lists)[u].availability = av[u] := by
  simp only [unitOrders, Fin.getElem_fin, Vector.getElem_ofFn]
  split <;> rfl

theorem unitOrders_of_unassigned {av : Vector Availability 12} {lists : Lists} {u : UnitId} (h : assigned lists u = false) :
    (unitOrders av lists)[u] = { availability := av[u], order := none, slot := none } := by
  simp [unitOrders, unitOf_of_unassigned h]

theorem unitOrders_of_assigned {av : Vector Availability 12} {lists : Lists} {u : UnitId} (h : assigned lists u = true) :
    ∃ i a, a ∈ lists[i] ∧ a.unit = u ∧ (unitOrders av lists)[u].order = some a.phase ∧
      (unitOrders av lists)[u].slot = some i := by
  obtain ⟨i, a, hunit, ha, hu⟩ := unitOf_of_assigned h
  exact ⟨i, a, ha, hu, by simp [unitOrders, hunit], by simp [unitOrders, hunit]⟩

/-- R119: what a unit adds to R_cap, by its availability and then by its order. -/
theorem capacityOf_eq (rating : Nat) (o : UnitOrder) :
    capacityOf rating o =
      if o.availability = .outOfService then 0
      else
        match o.order with
        | none => rating
        | some .unload => rating / 2
        | some .stop => 0 := by
  obtain ⟨availability, order, slot⟩ := o
  cases availability with
  | outOfService => rfl
  | available => rcases order with _ | _ | _ <;> rfl

theorem capacityOf_le (rating : Nat) (o : UnitOrder) : capacityOf rating o ≤ rating := by
  unfold capacityOf
  split
  · exact le_rfl
  · exact Nat.div_le_self _ _
  · exact Nat.zero_le _
  · exact Nat.zero_le _

/-- Twelve units of at most the largest rating. -/
theorem runningCapacity_le {ratings : Vector Nat 12} (h : ∀ u : UnitId, ratings[u] ≤ Config.maxRating)
    (orders : Vector UnitOrder 12) : runningCapacity ratings orders ≤ 72000 := by
  refine (List.sum_le_card_nsmul _ Config.maxRating fun x hx => ?_).trans (by simp [indices, Config.maxRating])
  obtain ⟨u, -, rfl⟩ := List.mem_map.mp hx
  exact (capacityOf_le _ _).trans (h u)

/-- The unit order set of an edge is that of the pause block the edge leaves. -/
theorem State.edgeOrders_eq (k : EdgeKind) (s : State) :
    (s.edgeOrders k).units = unitOrders (s.edgePause k).availability (s.edgePause k).lists ∧
      (s.edgeOrders k).rCap = runningCapacity s.grantedFlow.live.ratings (s.edgeOrders k).units :=
  ⟨rfl, rfl⟩

theorem State.edgeRecord_units (k : EdgeKind) (s : State) :
    (s.edgeRecord k).units = (s.edgeOrders k).units ∧ (s.edgeRecord k).rCap = (s.edgeOrders k).rCap :=
  ⟨rfl, rfl⟩

/-! ## O32: the unit order set -/

/-- Settles O32: the orders and R_cap by unit, and the tables as the pause block's work leaves them. -/
theorem unitOrderSetFollowsTheLists : Obligations.UnitOrderSetFollowsTheLists := by
  intro k s hg
  obtain ⟨hlive, hshadow, hpending, hpointer⟩ := s.pause.atEdge_rotation (s.edgeDemand k) s.grantedFlow.live.ratings
  obtain ⟨hrunits, hrcap⟩ := s.edgeRecord_units k
  obtain ⟨hunits, hcap⟩ := s.edgeOrders_eq k
  have horders : (s.edgePause k).orders = some (s.edgeOrders k) := PauseBlock.orderSet_atEdge _ _ _
  refine ⟨_, s.edgeRecord k, s.edgeOrders k, s.edgeDemand k, exec_afterEdge hg, s.afterEdge_flow_record k, ?_,
    s.afterEdge_demand k, hrunits, hrcap, ?_⟩
  · rw [State.afterEdge_pause_frame]
    exact horders
  rw [State.afterEdge_pause_frame, State.afterEdge_live]
  dsimp only
  refine ⟨fun u => ?_, ?_, fun hs => ?_, hshadow, hpending, fun hload => ?_, fun hload => ?_⟩
  · rw [hunits]
    refine ⟨unitOrders_availability _ _ u, fun h => ?_, unitOrders_of_assigned⟩
    rw [unitOrders_of_unassigned h]
    exact ⟨rfl, rfl⟩
  · rw [hcap, runningCapacity]
    exact congrArg List.sum (List.map_congr_left fun u _ => capacityOf_eq _ _)
  · obtain ⟨hflow, -, -⟩ := State.settingsInRange_iff.mp hs
    obtain ⟨⟨⟨-, -, -, -, hratings, -⟩, -⟩, -⟩ := Apportioner.inRange_atGrant hflow
    rw [hcap]
    exact runningCapacity_le hratings _
  · rw [PauseBlock.walkStart, hload] at hpointer
    rw [hload] at hlive
    exact ⟨hlive, hpointer⟩
  · rw [PauseBlock.walkStart, hload] at hpointer
    rw [hload] at hlive
    exact ⟨hlive, hpointer⟩

end Sys2Proof.Machine

namespace Sys2Proof.Machine

/-! ## The lists and the order lines at an edge (R126, R130, R139) -/

theorem PauseBlock.withLists_line (lists : Lists) (p : PauseBlock) (u : UnitId) :
    (p.withLists lists).lines[u] =
      if assigned p.lists u = true ∧ assigned lists u = false then .run else p.lines[u] := by
  simp only [PauseBlock.withLists, dropLines, mapTable_get, Bool.and_eq_true, Bool.not_eq_true']

/-- A staged report takes the units out of service off their lists. -/
theorem PauseBlock.applyReport_list (p : PauseBlock) (i : SlotId) :
    p.applyReport.lists[i] = p.lists[i].filter fun a => p.report.all fun av => decide (av[a.unit] = .available) := by
  unfold PauseBlock.applyReport
  cases p.report with
  | none => simp
  | some av => simp [PauseBlock.withLists]

theorem PauseBlock.applyReport_line (p : PauseBlock) (u : UnitId) :
    p.applyReport.lines[u] =
      if assigned p.lists u = true ∧ assigned p.applyReport.lists u = false then .run else p.lines[u] := by
  unfold PauseBlock.applyReport
  split
  next => rw [if_neg fun h => Bool.false_ne_true (h.2.symm.trans h.1)]
  next => exact PauseBlock.withLists_line _ _ _

theorem PauseBlock.applyLoad_lists (p : PauseBlock) : p.applyLoad.lists = p.lists ∧ p.applyLoad.lines = p.lines := by
  unfold PauseBlock.applyLoad
  split <;> exact ⟨rfl, rfl⟩

theorem PauseBlock.release_list (d : DemandSet) (p : PauseBlock) (i : SlotId) :
    (p.release d).lists[i] = keptList d.release d.claims i p.lists[i] := mapTable_get _ _ i

theorem PauseBlock.release_line (d : DemandSet) (p : PauseBlock) (u : UnitId) :
    (p.release d).lines[u] =
      if assigned p.lists u = true ∧ assigned (p.release d).lists u = false then .run else p.lines[u] :=
  PauseBlock.withLists_line _ p u

theorem keptList_subset (release : List SlotId) (claims : List PauseClaim) (i : SlotId) (l : List Assignment) :
    keptList release claims i l ⊆ l := by
  unfold keptList
  split
  · exact List.nil_subset _
  · split
    · exact List.take_subset _ _
    · exact List.Subset.refl _

/-- No unit comes onto a list by a report or by a release. -/
theorem PauseBlock.assigned_of_reported {p : PauseBlock} {u : UnitId} (h : assigned p.applyReport.lists u = true) :
    assigned p.lists u = true := by
  obtain ⟨i, a, ha, hu⟩ := assigned_iff.mp h
  rw [PauseBlock.applyReport_list] at ha
  exact assigned_iff.mpr ⟨i, a, List.mem_of_mem_filter ha, hu⟩

theorem PauseBlock.assigned_of_released {d : DemandSet} {p : PauseBlock} {u : UnitId}
    (h : assigned (p.release d).lists u = true) : assigned p.lists u = true := by
  obtain ⟨i, a, ha, hu⟩ := assigned_iff.mp h
  rw [PauseBlock.release_list] at ha
  exact assigned_iff.mpr ⟨i, a, keptList_subset _ _ _ _ ha, hu⟩

/-- A unit stands on a list after step 3 exactly where it is kept. -/
theorem PauseBlock.released_assigned {d : DemandSet} {p : PauseBlock} {u : UnitId} :
    assigned (p.applyReport.applyLoad.release d).lists u = true ↔ p.keeps d u := by
  have hlist (i : SlotId) : (p.applyReport.applyLoad.release d).lists[i] = p.kept d i := by
    rw [PauseBlock.release_list, p.applyReport.applyLoad_lists.1, PauseBlock.applyReport_list]
    rfl
  simp only [assigned_iff, hlist, PauseBlock.keeps]

/-- Dropping what leaves at a first step and then what leaves at a second drops what leaves by both. -/
theorem drop_then_drop {α : Type} {before between after : Bool} (hbetween : between = true → before = true)
    (hafter : after = true → between = true) (low line : α) :
    (if between = true ∧ after = false then low else if before = true ∧ between = false then low else line) =
      if before = true ∧ after = false then low else line := by
  cases between with
  | true => rw [hbetween rfl]; simp
  | false => cases after <;> simp_all

/-- Steps 1 to 3 drop the lines of exactly the units that leave every list. -/
theorem PauseBlock.released_line (d : DemandSet) (p : PauseBlock) (u : UnitId) :
    (p.applyReport.applyLoad.release d).lines[u] =
      if assigned p.lists u = true ∧ assigned (p.applyReport.applyLoad.release d).lists u = false then .run
      else p.lines[u] := by
  obtain ⟨hlists, hlines⟩ := p.applyReport.applyLoad_lists
  have hreleased : assigned (p.applyReport.applyLoad.release d).lists u = true → assigned p.applyReport.lists u = true :=
    fun h => by rw [← hlists]; exact PauseBlock.assigned_of_released h
  rw [PauseBlock.release_line, hlists, hlines, PauseBlock.applyReport_line]
  exact drop_then_drop PauseBlock.assigned_of_reported hreleased _ _

/-- The steps after the releases leave the lines. -/
theorem PauseBlock.atEdge_lines (d : DemandSet) (ratings : Vector Nat 12) (p : PauseBlock) :
    (p.atEdge d ratings).lines = (p.applyReport.applyLoad.release d).lines := by
  simp only [PauseBlock.atEdge, PauseBlock.publish, PauseBlock.serve, PauseBlock.advancePhases]

/-- R139: an edge drops the lines of the units that it takes off every list, and leaves the others. -/
theorem PauseBlock.atEdge_line (d : DemandSet) (ratings : Vector Nat 12) (p : PauseBlock) (u : UnitId) :
    (p.keeps d u ∨ assigned p.lists u = false → (p.atEdge d ratings).lines[u] = p.lines[u]) ∧
      (assigned p.lists u = true → ¬p.keeps d u → (p.atEdge d ratings).lines[u] = .run) := by
  rw [PauseBlock.atEdge_lines, PauseBlock.released_line, ← PauseBlock.released_assigned]
  refine ⟨fun h => if_neg ?_, fun hthere hgone => if_pos ⟨hthere, Bool.eq_false_of_not_eq_true hgone⟩⟩
  rintro ⟨hthere, hgone⟩
  rcases h with h | h
  · exact Bool.false_ne_true (hgone.symm.trans h)
  · exact Bool.false_ne_true (h.symm.trans hthere)

/-! ## O33: the order frame -/

theorem orderLines_eq (o : Option Phase) :
    orderLines o = { unload := decide (o = some .unload), stop := decide (o = some .stop) } := by
  rcases o with _ | _ | _ <;> rfl

/-- The frame of the edge carries the figures of its record (R190). -/
theorem State.orderFrame_edgeRecord (k : EdgeKind) (s : State) :
    orderFrame (s.edgeRecord k) =
      { interval := (s.afterEdge k).time.interval, kind := some k, standby := false, hold := decide (k = .holdEntry),
        deficit := (s.edgeRecord k).deficitRaised, stale := (s.edgeRecord k).fallbackUsed,
        forced := (s.edgeRecord k).passes.map (·.forced), setpoints := (s.edgeRecord k).passes.map (·.delivered),
        tt := (s.edgeRecord k).tt, spill := (s.edgeRecord k).spill, qUsed := (s.edgeRecord k).qUsed } := by
  obtain ⟨hinterval, hkind, -⟩ := s.edgeRecord_heading k
  obtain ⟨hopened, -⟩ := s.edge_opened k
  have hmap {α : Type} (f : PassFigures → α) (v : Vector PassFigures 6) : mapTable (fun _ x => f x) v = v.map f :=
    Vector.ext fun i hi => by simp
  simp only [orderFrame, State.afterEdge, hopened, hinterval, hkind, hmap]

/-- Settles O33: the frame begins or waits by what the transmitter does, and the lines follow. -/
theorem edgeHandsItsOrderFrame : Obligations.EdgeHandsItsOrderFrame := by
  intro k s hg
  have horders : (s.edgePause k).orders = some (s.edgeOrders k) := PauseBlock.orderSet_atEdge _ _ _
  refine ⟨_, s.edgeRecord k, s.edgeOrders k, s.edgeDemand k, _, exec_afterEdge hg, s.afterEdge_flow_record k, ?_,
    s.afterEdge_demand k, s.orderFrame_edgeRecord k, ?_, fun hidle => ?_, fun hbusy => ?_⟩
  · rw [State.afterEdge_pause_frame]
    exact horders
  · rw [State.afterEdge_out]
    split <;> rfl
  · have hbegins : s.out.sending.isNone = true := Option.isNone_iff_eq_none.mpr hidle
    rw [State.afterEdge_out, State.afterEdge_pause, if_pos hbegins, if_pos hbegins]
    refine ⟨rfl, rfl, rfl, fun u => ?_⟩
    rw [mapTable_get, orderLines_eq]
  · have hwaits : ¬s.out.sending.isNone = true := mt Option.isNone_iff_eq_none.mp hbusy
    rw [State.afterEdge_out, State.afterEdge_pause, if_neg hwaits, if_neg hwaits]
    exact ⟨rfl, rfl, rfl, s.pause.atEdge_line _ _⟩

end Sys2Proof.Machine

namespace Sys2Proof.Machine

/-! ## O46: bindings, reports and loads -/

/-! ### SET_BINDING (R105) -/

section setBinding
variable {f : BindingFields} {s : State}

theorem setBinding_badField (h : 5 < f.pass ∨ f.binding = none) : setBinding f s = (s, .bare .badField) := by
  unfold setBinding
  split
  next p k hp hk =>
    have hpass := index?_eq_some hp
    rcases h with h | h
    · omega
    · cases hk.symm.trans h
  next => rfl

theorem setBinding_given {p : PassId} {k : Binding} (hp : f.pass = p.val) (hk : f.binding = some k) :
    setBinding f s =
      ({ s with
          flow := { s.flow with
            bindings := s.flow.bindings.set p
              (PassBinding.given (decide (s.time.opState = .standby)) k (min f.setpoint.toNat s.flow.live.passes[p].max)
                s.flow.bindings[p]) } },
        .bare (okStatus (decide (s.flow.live.passes[p].max < f.setpoint.toNat)))) := by
  simp only [setBinding, hp, hk, index?_val]

theorem PassBinding.given_eq (o : OpState) (k : Binding) (v : Nat) (b : PassBinding) :
    b.given (decide (o = .standby)) k v =
      if o = .standby then { live := k, setpoint := v, pulse := false, staged := b.staged }
      else { b with staged := some (k, v) } := by
  simp only [PassBinding.given, decide_eq_true_eq]

theorem bare_okStatus (limit v : Nat) :
    Response.bare (okStatus (decide (limit < v))) = ⟨if limit < v then .okClamped else .ok, .empty⟩ := by
  simp only [Response.bare, okStatus, decide_eq_true_eq]

end setBinding

/-! ### REPORT_UNITS and LOAD_ROTATION (R125, R137) -/

theorem checkReport_badField {l : List (Option Availability)} (h : l.length ≠ 12 ∨ none ∈ l) : checkReport l = none := by
  unfold checkReport
  split
  next vs hvs =>
    have hl := allNamed_eq_some.mp hvs
    refine dif_neg fun h12 => ?_
    rcases h with h | h <;> simp [hl, h12] at h
  next => rfl

theorem checkReport_toList (av : Vector Availability 12) : checkReport (av.toList.map some) = some av := by
  have hnamed : allNamed (av.toList.map some) = some av.toList := allNamed_eq_some.mpr rfl
  simp only [checkReport, hnamed, Vector.length_toList, ↓reduceDIte]
  rfl

/-- An entry passes exactly as the number that the request carries it by (R137). -/
theorem checkEntry_eq_some {n : Nat} {e : Option UnitId} : checkEntry n = some e ↔ n = e.elim 15 (·.val) := by
  unfold checkEntry
  split
  next h15 =>
    subst h15
    cases e with
    | none => simp
    | some u =>
      simp only [Option.elim_some, Option.some.injEq, reduceCtorEq, false_iff]
      omega
  next h15 =>
    cases e with
    | none => simpa using h15
    | some u =>
      simp only [Option.map_eq_some_iff, Option.some.injEq, exists_eq_right, Option.elim_some]
      exact ⟨fun h => (index?_eq_some h).symm, fun h => h ▸ index?_val u⟩

theorem checkEntry_eq_none {n : Nat} (h : 11 < n ∧ n ≠ 15) : checkEntry n = none := by
  rw [checkEntry, if_neg h.2, index?, dif_neg (by omega)]
  rfl

theorem checkEntries_eq_some {l : List Nat} {es : List (Option UnitId)} :
    checkEntries l = some es ↔ l = es.map fun e => e.elim 15 (·.val) := by
  induction l generalizing es with
  | nil => cases es <;> simp [checkEntries]
  | cons n l ih =>
    cases hn : checkEntry n with
    | none => cases es <;> simp [checkEntries, hn, ← checkEntry_eq_some]
    | some e => cases es <;> simp [checkEntries, hn, ih, ← checkEntry_eq_some, and_comm]

theorem checkRotation_badField {l : List Nat} (h : l.length ≠ 32 ∨ ∃ n ∈ l, 11 < n ∧ n ≠ 15) : checkRotation l = none := by
  unfold checkRotation
  split
  next es hes =>
    have hl := checkEntries_eq_some.mp hes
    refine dif_neg fun h32 => ?_
    rcases h with h | ⟨n, hn, hbad⟩
    · exact h (by rw [hl, List.length_map, h32])
    · rw [hl] at hn
      obtain ⟨e, -, he⟩ := List.mem_map.mp hn
      cases (checkEntry_eq_none hbad).symm.trans (checkEntry_eq_some.mpr he.symm)
  next => rfl

theorem checkRotation_toList (table : Vector (Option UnitId) 32) :
    checkRotation (table.toList.map fun e => e.elim 15 (·.val)) = some table := by
  have hentries := checkEntries_eq_some.mpr (rfl : (table.toList.map fun e => e.elim 15 (·.val)) = _)
  simp only [checkRotation, hentries, Vector.length_toList, ↓reduceDIte]
  rfl

/-- Settles O46: each request's work on the fields that its check lets pass, and its refusal of the others. -/
theorem bindingsReportsAndLoadsAreHeld : Obligations.BindingsReportsAndLoadsAreHeld := by
  refine ⟨fun iss s => ⟨fun f hg => ⟨fun hbad => ?_, fun p k hp hk => ?_⟩, fun v hg => ?_⟩,
    fun iss s => ⟨fun l hg => ⟨fun hbad => ?_, fun av hl => ?_⟩, fun l hg => ⟨fun hbad => ?_, fun table hl => ?_⟩⟩⟩
  · rw [exec_setBinding, runRequest_granted hg, withFields_fields, setBinding_badField hbad]
    rfl
  · rw [exec_setBinding, runRequest_granted hg, withFields_fields, setBinding_given hp hk, PassBinding.given_eq,
      bare_okStatus]
    rfl
  · rw [exec_reportInflow, runRequest_granted hg, withFields_fields, reportInflow, bare_okStatus]
    rfl
  · rw [exec_reportUnits, runRequest_granted hg, withFields_fields, reportUnits, checkReport_badField hbad]
    rfl
  · rw [exec_reportUnits, runRequest_granted hg, withFields_fields, reportUnits, hl, checkReport_toList]
    rfl
  · rw [exec_loadRotation, runRequest_granted hg, withFields_fields, loadRotation, checkRotation_badField hbad]
    rfl
  · rw [exec_loadRotation, runRequest_granted hg, withFields_fields, loadRotation, hl, checkRotation_toList]
    rfl

end Sys2Proof.Machine

/-! # Proofs of the unit pauses and the rotation table

First what a placement of a unit does to the lists (`Placed`, `Served`), then the service of the FIXED and of the ANY claims in
terms of it, and what an edge makes of the pause block (`PauseBlock.atEdge_served`); then `KeepsPause`, by which a law of the
lists and the lines is kept by every step; then each statement of the family. -/

namespace Sys2Proof.Machine

/-! ## Placing units -/

/-- A unit is placed on the list of the claim `c`: the claim has a deficit, the unit is AVAILABLE and on no list, it is the one
named where the claim is FIXED, and it goes to the end of the list (R128, R132, R133). -/
def Placed (av : Vector Availability 12) (c : PauseClaim) (lists after : Lists) : Prop :=
  ∃ u, 0 < deficit lists c ∧ assignable av lists u = true ∧ (∀ v, c.target = .fixed v → u = v) ∧ after = assign c u lists

/-- Units are placed, one after another, on the lists of claims that `P` names. -/
def Served (av : Vector Availability 12) (P : PauseClaim → Prop) : Lists → Lists → Prop :=
  Relation.ReflTransGen fun lists after => ∃ c, P c ∧ Placed av c lists after

/-- Each unit stands on at most one list, and on it once (R127). -/
def unitsOnce (lists : Lists) : Prop :=
  (∀ i : SlotId, (lists[i].map (·.unit)).Nodup) ∧
    ∀ i j : SlotId, i ≠ j → ∀ a ∈ lists[i], ∀ b ∈ lists[j], a.unit ≠ b.unit

section lists
variable {av : Vector Availability 12} {lists after : Lists} {c : PauseClaim} {P : PauseClaim → Prop} {u v : UnitId}
  {i : SlotId}

theorem lists_ext (h : ∀ i : SlotId, lists[i] = after[i]) : lists = after := Vector.ext fun i hi => h ⟨i, hi⟩

theorem assign_get : (assign c u lists)[i] = if c.slot = i then lists[i] ++ [c.newEntry u] else lists[i] := by
  simp only [assign, Fin.getElem_fin, Vector.getElem_set, ← Fin.ext_iff]
  split
  next h => subst h; rfl
  next => rfl

theorem assign_get_same : (assign c u lists)[c.slot] = lists[c.slot] ++ [c.newEntry u] := by rw [assign_get, if_pos rfl]

theorem assign_get_other (h : c.slot ≠ i) : (assign c u lists)[i] = lists[i] := by rw [assign_get, if_neg h]

theorem mem_assign {a : Assignment} :
    a ∈ (assign c u lists)[i] ↔ a ∈ lists[i] ∨ c.slot = i ∧ a = c.newEntry u := by
  rw [assign_get]
  split
  next h => simp [h]
  next h => simp [h]

theorem assigned_assign : assigned (assign c u lists) v = true ↔ assigned lists v = true ∨ u = v := by
  simp only [assigned_iff, mem_assign]
  constructor
  · rintro ⟨i, a, ha | ⟨-, rfl⟩, hv⟩
    · exact .inl ⟨i, a, ha, hv⟩
    · exact .inr hv
  · rintro (⟨i, a, ha, hv⟩ | hv)
    · exact ⟨i, a, .inl ha, hv⟩
    · exact ⟨c.slot, _, .inr ⟨rfl, rfl⟩, hv⟩

theorem assignable_iff : assignable av lists u = true ↔ av[u] = .available ∧ assigned lists u = false := by
  simp [assignable]

theorem assignable_eq_false : assignable av lists u = false ↔ av[u] ≠ .available ∨ assigned lists u = true := by
  rw [← Bool.not_eq_true, assignable_iff, not_and_or, Bool.not_eq_false]

theorem assignable_of_assign (h : assignable av (assign c u lists) v = true) : assignable av lists v = true := by
  obtain ⟨hv, hfree⟩ := assignable_iff.mp h
  refine assignable_iff.mpr ⟨hv, Bool.eq_false_of_not_eq_true fun hthere => ?_⟩
  exact Bool.false_ne_true (hfree.symm.trans (assigned_assign.mpr (.inl hthere)))

theorem deficit_pos : 0 < deficit lists c ↔ lists[c.slot].length < c.count := Nat.sub_pos_iff_lt

theorem deficit_assign (c : PauseClaim) (u : UnitId) (lists : Lists) :
    deficit (assign c u lists) c = deficit lists c - 1 := by
  rw [deficit, assign_get_same, List.length_append, List.length_singleton, ← Nat.sub_sub]
  rfl

/-! ### What a service leaves -/

theorem Served.single (hc : P c) (h : Placed av c lists after) : Served av P lists after :=
  Relation.ReflTransGen.single ⟨c, hc, h⟩

theorem Served.trans {between : Lists} (h : Served av P lists between) (h' : Served av P between after) :
    Served av P lists after := Relation.ReflTransGen.trans h h'

theorem Served.mono {Q : PauseClaim → Prop} (hPQ : ∀ c, P c → Q c) (h : Served av P lists after) :
    Served av Q lists after := by
  induction h with
  | refl => exact .refl
  | tail _ hstep ih =>
    obtain ⟨c, hc, hplaced⟩ := hstep
    exact ih.tail ⟨c, hPQ c hc, hplaced⟩

/-- A unit on a list stays there. -/
theorem Served.stays_assigned (h : Served av P lists after) (hu : assigned lists u = true) : assigned after u = true := by
  induction h with
  | refl => exact hu
  | tail _ hstep ih =>
    obtain ⟨c, -, v, -, -, -, rfl⟩ := hstep
    exact assigned_assign.mpr (.inl ih)

theorem Served.unassigned (h : Served av P lists after) (hu : assigned after u = false) :
    assigned lists u = false :=
  Bool.eq_false_of_not_eq_true fun hthere => Bool.false_ne_true (hu.symm.trans (h.stays_assigned hthere))

theorem Served.not_assignable (h : Served av P lists after) (hu : assignable av lists u = false) :
    assignable av after u = false :=
  assignable_eq_false.mpr ((assignable_eq_false.mp hu).imp_right h.stays_assigned)

/-- A unit that can still be assigned could be before. -/
theorem Served.was_assignable (h : Served av P lists after) (hu : assignable av after u = true) :
    assignable av lists u = true :=
  assignable_iff.mpr ((assignable_iff.mp hu).imp_right h.unassigned)

/-- Each list keeps its entries, and at its end come units that were AVAILABLE and on no list, each for a claim of the slot. -/
theorem Served.list (h : Served av P lists after) (i : SlotId) :
    ∃ new, after[i] = lists[i] ++ new ∧
      ∀ a ∈ new, assignable av lists a.unit = true ∧
        ∃ c, P c ∧ c.slot = i ∧ (∀ v, c.target = .fixed v → a.unit = v) ∧ a = c.newEntry a.unit := by
  induction h with
  | refl => exact ⟨[], (List.append_nil _).symm, nofun⟩
  | tail hserved hstep ih =>
    obtain ⟨new, hnew, hall⟩ := ih
    obtain ⟨c, hc, u, -, hu, hfixed, rfl⟩ := hstep
    rw [assign_get, hnew]
    split
    next hslot =>
      refine ⟨new ++ [c.newEntry u], List.append_assoc _ _ _, fun a ha => ?_⟩
      rcases List.mem_append.mp ha with ha | ha
      · exact hall a ha
      · obtain rfl := List.mem_singleton.mp ha
        obtain ⟨hav, hfree⟩ := assignable_iff.mp hu
        exact ⟨assignable_iff.mpr ⟨hav, Served.unassigned hserved hfree⟩, c, hc, hslot, hfixed, rfl⟩
    next => exact ⟨new, rfl, hall⟩

/-- The entries of a list stay at its front. -/
theorem Served.keeps_front (h : Served av P lists after) (i : SlotId) : lists[i] <+: after[i] := by
  obtain ⟨new, hnew, -⟩ := h.list i
  exact ⟨new, hnew.symm⟩

/-- The list of a slot without a claim stays as it is. -/
theorem Served.unclaimed (h : Served av P lists after) (hno : ∀ c, P c → c.slot ≠ i) : after[i] = lists[i] := by
  obtain ⟨new, hnew, hall⟩ := h.list i
  cases new with
  | nil => rw [hnew, List.append_nil]
  | cons a new =>
    obtain ⟨-, c, hc, hslot, -⟩ := hall a List.mem_cons_self
    exact absurd hslot (hno c hc)

/-- A unit that stands on a list comes onto no other. -/
theorem Served.mem_of_assigned (h : Served av P lists after) (hu : assigned lists u = true) {a : Assignment}
    (ha : a ∈ after[i]) (hau : a.unit = u) : a ∈ lists[i] := by
  obtain ⟨new, hnew, hall⟩ := h.list i
  rw [hnew, List.mem_append] at ha
  refine ha.resolve_right fun hnewer => ?_
  rw [← hau] at hu
  exact Bool.false_ne_true ((assignable_iff.mp (hall a hnewer).1).2.symm.trans hu)

/-- The list of a slot with one claim comes to the claim's count at most (R132). -/
theorem Served.length_le (h : Served av P lists after) (hone : ∀ x, P x → x.slot = c.slot → x = c)
    (hle : lists[c.slot].length ≤ c.count) : after[c.slot].length ≤ c.count := by
  induction h with
  | refl => exact hle
  | tail _ hstep ih =>
    obtain ⟨x, hx, u, hroom, -, -, rfl⟩ := hstep
    rw [assign_get]
    split
    next hslot =>
      obtain rfl := hone x hx hslot
      rw [List.length_append, List.length_singleton]
      exact deficit_pos.mp hroom
    next => exact ih

/-- A unit on no list may go onto one. -/
theorem unitsOnce_assign (h : unitsOnce lists) (hu : assigned lists u = false) : unitsOnce (assign c u lists) := by
  have hfree (i : SlotId) : ∀ a ∈ lists[i], a.unit ≠ u := assigned_eq_false.mp hu i
  obtain ⟨honce, hapart⟩ := h
  refine ⟨fun i => ?_, fun i j hij a ha b hb => ?_⟩
  · rw [assign_get]
    split
    · rw [List.map_append, List.map_singleton, ← List.concat_eq_append, List.nodup_concat, List.mem_map]
      exact ⟨fun ⟨a, ha, hau⟩ => hfree i a ha hau, honce i⟩
    · exact honce i
  · rcases mem_assign.mp ha with ha | ⟨hi, rfl⟩ <;> rcases mem_assign.mp hb with hb | ⟨hj, rfl⟩
    · exact hapart i j hij a ha b hb
    · exact hfree i a ha
    · exact (hfree j b hb).symm
    · exact absurd (hi.symm.trans hj) hij

theorem Served.keeps_unitsOnce (h : Served av P lists after) (honce : unitsOnce lists) : unitsOnce after := by
  induction h with
  | refl => exact honce
  | tail _ hstep ih =>
    obtain ⟨c, -, u, -, hu, -, rfl⟩ := hstep
    exact unitsOnce_assign ih (assignable_iff.mp hu).2

end lists

/-! ## The FIXED claims (R132) -/

section fixed
variable {av : Vector Availability 12} {lists : Lists} {c : PauseClaim} {u : UnitId}

theorem serveFixed_fixed (h : c.target = .fixed u) :
    serveFixed av lists c =
      if 0 < deficit lists c ∧ assignable av lists u = true then assign c u lists else lists := by
  simp only [serveFixed, h]

theorem serveFixed_served (av : Vector Availability 12) (lists : Lists) (c : PauseClaim) :
    Served av (fun x => x = c ∧ x.target ≠ .any) lists (serveFixed av lists c) := by
  cases ht : c.target with
  | pass p => simp only [serveFixed, ht]; exact .refl
  | any => simp only [serveFixed, ht]; exact .refl
  | fixed u =>
    rw [serveFixed_fixed ht]
    split
    next h =>
      refine .single ⟨rfl, by rw [ht]; nofun⟩ ⟨u, h.1, h.2, fun v hv => ?_, rfl⟩
      exact Target.fixed.inj (ht.symm.trans hv)
    next => exact .refl

theorem foldl_serveFixed_served (av : Vector Availability 12) (claims : List PauseClaim) (lists : Lists) :
    Served av (fun x => x ∈ claims ∧ x.target ≠ .any) lists (claims.foldl (serveFixed av) lists) := by
  induction claims generalizing lists with
  | nil => exact .refl
  | cons c claims ih =>
    have hfirst : Served av (fun x => x ∈ c :: claims ∧ x.target ≠ .any) lists (serveFixed av lists c) :=
      (serveFixed_served av lists c).mono fun x ⟨hx, hfixed⟩ => ⟨hx ▸ List.mem_cons_self, hfixed⟩
    exact hfirst.trans ((ih _).mono fun x hx => ⟨List.mem_cons_of_mem _ hx.1, hx.2⟩)

/-- After the service a FIXED claim is full, or its unit could not be assigned. -/
theorem foldl_serveFixed_full (ht : c.target = .fixed u) {claims : List PauseClaim} (hc : c ∈ claims) (lists : Lists) :
    c.count ≤ (claims.foldl (serveFixed av) lists)[c.slot].length ∨
      assignable av (claims.foldl (serveFixed av) lists) u = false := by
  induction claims generalizing lists with
  | nil => cases hc
  | cons x claims ih =>
    rw [List.foldl_cons]
    rcases List.mem_cons.mp hc with rfl | hc
    · have hrest := foldl_serveFixed_served av claims (serveFixed av lists c)
      rw [serveFixed_fixed ht] at hrest ⊢
      by_cases hu : assignable av lists u = true
      · by_cases hroom : 0 < deficit lists c
        · rw [if_pos ⟨hroom, hu⟩] at hrest ⊢
          refine .inr (hrest.not_assignable (assignable_eq_false.mpr (.inr ?_)))
          exact assigned_assign.mpr (.inr rfl)
        · rw [if_neg fun h => hroom h.1] at hrest ⊢
          exact .inl ((Nat.le_of_not_lt (mt deficit_pos.mpr hroom)).trans (hrest.keeps_front c.slot).length_le)
      · rw [if_neg fun h => hu h.2] at hrest ⊢
        exact .inr (hrest.not_assignable (Bool.eq_false_of_not_eq_true hu))
    · exact ih hc _

/-- The lowest of the FIXED claims that name one assignable unit, and have none, is served with it. -/
theorem foldl_serveFixed_lowest (ht : c.target = .fixed u) {claims : List PauseClaim}
    (hslots : (claims.map (·.slot)).Pairwise (· < ·)) (hcount : ∀ x ∈ claims, ∀ v, x.target = .fixed v → x.count = 1)
    (hc : c ∈ claims) (hempty : lists[c.slot] = []) (hu : assignable av lists u = true)
    (hlow : ∀ x ∈ claims, x.target = .fixed u → lists[x.slot] = [] → c.slot ≤ x.slot) :
    (claims.foldl (serveFixed av) lists)[c.slot] = [c.newEntry u] ∧
      ∀ j, j ≠ c.slot → ∀ a ∈ (claims.foldl (serveFixed av) lists)[j], a.unit ≠ u := by
  induction claims generalizing lists with
  | nil => cases hc
  | cons x claims ih =>
    rw [List.foldl_cons]
    rw [List.map_cons, List.pairwise_cons, List.forall_mem_map] at hslots
    obtain ⟨hbelow, hslots⟩ := hslots
    have hkeeps (y : PauseClaim) (hy : y ∈ claims) : (serveFixed av lists x)[y.slot] = lists[y.slot] :=
      (serveFixed_served av lists x).unclaimed fun z hz => hz.1 ▸ (hbelow y hy).ne
    have hfree := (assignable_iff.mp hu).2
    rcases List.mem_cons.mp hc with rfl | hc
    · have hroom : 0 < deficit lists c := by rw [deficit_pos, hempty, hcount c List.mem_cons_self u ht]; exact Nat.one_pos
      have hrest := foldl_serveFixed_served av claims (serveFixed av lists c)
      rw [serveFixed_fixed ht, if_pos ⟨hroom, hu⟩] at hrest ⊢
      refine ⟨?_, fun j hj a ha hau => ?_⟩
      · rw [hrest.unclaimed fun y hy => (hbelow y hy.1).ne', assign_get_same, hempty]
        rfl
      · have hthere := hrest.mem_of_assigned (assigned_assign.mpr (.inr rfl)) ha hau
        rw [assign_get_other hj.symm] at hthere
        exact assigned_eq_false.mp hfree j a hthere hau
    · refine ih hslots (fun y hy => hcount y (List.mem_cons_of_mem _ hy)) hc ((hkeeps c hc).trans hempty) ?_ fun y hy hty he =>
        hlow y (List.mem_cons_of_mem _ hy) hty ((hkeeps y hy).symm.trans he)
      -- the first claim does not take the unit: it would be a lower one that names it and has none
      cases hx : x.target with
      | pass p => simpa only [serveFixed, hx] using hu
      | any => simpa only [serveFixed, hx] using hu
      | fixed v =>
        rw [serveFixed_fixed hx]
        split
        next hplaced =>
          refine assignable_iff.mpr ⟨(assignable_iff.mp hu).1, Bool.eq_false_of_not_eq_true fun hthere => ?_⟩
          rcases assigned_assign.mp hthere with hthere | rfl
          · exact Bool.false_ne_true (hfree.symm.trans hthere)
          · have hroom := deficit_pos.mp hplaced.1
            rw [hcount x List.mem_cons_self v hx, Nat.lt_one_iff, List.length_eq_zero_iff] at hroom
            exact absurd (hlow x List.mem_cons_self hx hroom) (hbelow c hc).not_ge
        next => exact hu

end fixed

/-! ## The rotation walks (R133, R136) -/

/-- A walk that has failed left no unit of the table that could be assigned. -/
def Service.failedRightly (av : Vector Availability 12) (live : Vector (Option UnitId) 32) (x : Service) : Prop :=
  x.failed = true → walkFrom av live x.lists x.pointer = none

/-- `y` is `x` with a walk for the claim `c` as its last: the unit of a phase `ph` of the table, which could be assigned
in `x`, stands at the end of the claim's list, and the pointer is after `ph`. -/
def Service.lastWalk (av : Vector Availability 12) (live : Vector (Option UnitId) 32) (c : PauseClaim) (x y : Service) :
    Prop :=
  ∃ l u ph, y.lists[c.slot] = l ++ [c.newEntry u] ∧ live[ph] = some u ∧ y.pointer = ph + 1 ∧
    assignable av x.lists u = true

section walks
variable {av : Vector Availability 12} {live : Vector (Option UnitId) 32} {lists : Lists} {pointer : PhaseId}
  {c : PauseClaim} {n : Nat} {x : Service}

/-- R133: the walk takes the first phase, from the pointer upward modulo 32, whose unit can be assigned. -/
theorem walkFrom_eq (av : Vector Availability 12) (live : Vector (Option UnitId) 32) (lists : Lists) (pointer : PhaseId) :
    walkFrom av live lists pointer =
      Fin.findSome? fun k => (live[pointer + k].filter (assignable av lists)).map fun u => (pointer + k, u) := by
  rw [Fin.findSome?_eq_findSome?_finRange, walkFrom, indices]
  congr 1
  funext k
  split
  next u hu =>
    rw [hu, Option.filter_some]
    split <;> rfl
  next hnone => rw [hnone]; rfl

theorem phaseUnit_eq_none {ph : PhaseId} :
    (live[ph].filter (assignable av lists)).map (fun u => (ph, u)) = none ↔
      ∀ v, live[ph] = some v → assignable av lists v = false := by
  simp only [Option.map_eq_none_iff, Option.filter_eq_none_iff, Bool.not_eq_true]

theorem walkFrom_eq_none :
    walkFrom av live lists pointer = none ↔ ∀ (ph : PhaseId) v, live[ph] = some v → assignable av lists v = false := by
  simp only [walkFrom_eq, Fin.findSome?_eq_none_iff, phaseUnit_eq_none]
  exact ⟨fun h ph => by simpa using h (ph - pointer), fun h k => h (pointer + k)⟩

theorem walkFrom_eq_some {ph : PhaseId} {u : UnitId} :
    walkFrom av live lists pointer = some (ph, u) ↔
      ∃ n : Fin 32, ph = pointer + n ∧ live[ph] = some u ∧ assignable av lists u = true ∧
        ∀ j : Fin 32, j < n → ∀ v, live[pointer + j] = some v → assignable av lists v = false := by
  simp only [walkFrom_eq, Fin.findSome?_eq_some_iff, phaseUnit_eq_none, Option.map_eq_some_iff,
    Option.filter_eq_some_iff, Prod.mk.injEq]
  refine exists_congr fun n => ⟨?_, ?_⟩
  · rintro ⟨⟨v, ⟨hv, hfree⟩, rfl, rfl⟩, hbefore⟩
    exact ⟨rfl, hv, hfree, hbefore⟩
  · rintro ⟨rfl, hu, hfree, hbefore⟩
    exact ⟨⟨u, ⟨hu, hfree⟩, rfl, rfl⟩, hbefore⟩

/-! ### The walks of one claim -/

theorem serveWalks_of_failed (h : x.failed = true) : serveWalks av live c n x = x := by
  cases n with
  | zero => rfl
  | succ n => rw [serveWalks, if_pos h]

theorem serveWalks_none (h : walkFrom av live lists pointer = none) :
    serveWalks av live c (n + 1) ⟨lists, pointer, false⟩ = ⟨lists, pointer, true⟩ := by
  simp [serveWalks, h]

theorem serveWalks_some {ph : PhaseId} {u : UnitId} (h : walkFrom av live lists pointer = some (ph, u)) :
    serveWalks av live c (n + 1) ⟨lists, pointer, false⟩ =
      serveWalks av live c n ⟨assign c u lists, ph + 1, false⟩ := by
  simp [serveWalks, h]

theorem assignable_of_walkFrom {ph : PhaseId} {u : UnitId} (h : walkFrom av live lists pointer = some (ph, u)) :
    live[ph] = some u ∧ assignable av lists u = true := by
  obtain ⟨-, -, hlive, hu, -⟩ := walkFrom_eq_some.mp h
  exact ⟨hlive, hu⟩

theorem serveWalks_served (hany : c.target = .any) (hn : n ≤ deficit x.lists c) :
    Served av (· = c) x.lists (serveWalks av live c n x).lists := by
  fun_induction serveWalks av live c n x with
  | case1 x => exact .refl
  | case2 n x hfailed => exact .refl
  | case3 n x _ hnone => exact .refl
  | case4 n x _ ph u hwalk ih =>
    have hplaced : Placed av c x.lists (assign c u x.lists) :=
      ⟨u, by omega, (assignable_of_walkFrom hwalk).2, by rw [hany]; nofun, rfl⟩
    exact (Served.single (P := (· = c)) rfl hplaced).trans (ih (by rw [deficit_assign]; omega))

theorem serveWalks_failedRightly (h : x.failedRightly av live) : (serveWalks av live c n x).failedRightly av live := by
  fun_induction serveWalks av live c n x with
  | case1 x => exact h
  | case2 n x hfailed => exact h
  | case3 n x _ hnone => exact fun _ => hnone
  | case4 n x _ ph u hwalk ih => exact ih nofun

/-- The walks fill the claim, unless one fails. -/
theorem serveWalks_full (hn : deficit x.lists c ≤ n) :
    (serveWalks av live c n x).failed = true ∨ deficit (serveWalks av live c n x).lists c = 0 := by
  fun_induction serveWalks av live c n x with
  | case1 x => exact .inr (Nat.le_zero.mp hn)
  | case2 n x hfailed => exact .inl hfailed
  | case3 n x _ hnone => exact .inl rfl
  | case4 n x _ ph u hwalk ih => exact ih (by rw [deficit_assign]; omega)

/-- The walks leave everything as it was, or the last one that succeeded is seen. -/
theorem serveWalks_last :
    ((serveWalks av live c n x).lists = x.lists ∧ (serveWalks av live c n x).pointer = x.pointer) ∨
      x.lastWalk av live c (serveWalks av live c n x) := by
  fun_induction serveWalks av live c n x with
  | case1 x => exact .inl ⟨rfl, rfl⟩
  | case2 n x hfailed => exact .inl ⟨rfl, rfl⟩
  | case3 n x _ hnone => exact .inl ⟨rfl, rfl⟩
  | case4 n x _ ph u hwalk ih =>
    right
    obtain ⟨hlive, hu⟩ := assignable_of_walkFrom hwalk
    rcases ih with ⟨hlists, hpointer⟩ | ⟨l, v, ph', hlast, hlive', hpointer, hv⟩
    · exact ⟨x.lists[c.slot], u, ph, by rw [hlists]; exact assign_get_same, hlive, hpointer, hu⟩
    · exact ⟨l, v, ph', hlast, hlive', hpointer, assignable_of_assign hv⟩

/-! ### The walks of all claims -/

theorem serveAny_any (h : c.target = .any) : serveAny av live x c = serveWalks av live c (deficit x.lists c) x := by
  simp only [serveAny, h]

theorem serveAny_other (h : c.target ≠ .any) : serveAny av live x c = x := by
  simp only [serveAny]

theorem serveAny_of_failed (h : x.failed = true) : serveAny av live x c = x := by
  by_cases hc : c.target = .any
  · rw [serveAny_any hc, serveWalks_of_failed h]
  · exact serveAny_other hc

theorem serveAny_served (x : Service) (c : PauseClaim) :
    Served av (fun y => y = c ∧ y.target = .any) x.lists (serveAny av live x c).lists := by
  by_cases hc : c.target = .any
  · rw [serveAny_any hc]
    exact (serveWalks_served hc le_rfl).mono fun y hy => ⟨hy, hy ▸ hc⟩
  · rw [serveAny_other hc]
    exact .refl

theorem foldl_serveAny_of_failed {claims : List PauseClaim} (h : x.failed = true) :
    claims.foldl (serveAny av live) x = x := by
  induction claims with
  | nil => rfl
  | cons c claims ih => rw [List.foldl_cons, serveAny_of_failed h, ih]

theorem foldl_serveAny_served (claims : List PauseClaim) (x : Service) :
    Served av (fun y => y ∈ claims ∧ y.target = .any) x.lists (claims.foldl (serveAny av live) x).lists := by
  induction claims generalizing x with
  | nil => exact .refl
  | cons c claims ih =>
    have hfirst : Served av (fun y => y ∈ c :: claims ∧ y.target = .any) x.lists (serveAny av live x c).lists :=
      (serveAny_served x c).mono fun y ⟨hy, hany⟩ => ⟨hy ▸ List.mem_cons_self, hany⟩
    exact hfirst.trans ((ih _).mono fun y hy => ⟨List.mem_cons_of_mem _ hy.1, hy.2⟩)

theorem foldl_serveAny_failedRightly (claims : List PauseClaim) (h : x.failedRightly av live) :
    (claims.foldl (serveAny av live) x).failedRightly av live := by
  refine List.foldlRecOn claims _ h fun y hy c _ => ?_
  by_cases hc : c.target = .any
  · rw [serveAny_any hc]
    exact serveWalks_failedRightly hy
  · rwa [serveAny_other hc]

/-- After the walks an ANY claim is full, unless a walk has failed. -/
theorem foldl_serveAny_full (hany : c.target = .any) {claims : List PauseClaim} (hc : c ∈ claims) (x : Service) :
    (claims.foldl (serveAny av live) x).failed = true ∨
      c.count ≤ (claims.foldl (serveAny av live) x).lists[c.slot].length := by
  induction claims generalizing x with
  | nil => cases hc
  | cons y claims ih =>
    rw [List.foldl_cons]
    rcases List.mem_cons.mp hc with rfl | hc
    · have hrest := foldl_serveAny_served (av := av) (live := live) claims (serveAny av live x c)
      rw [serveAny_any hany] at hrest ⊢
      rcases serveWalks_full (av := av) (live := live) (le_refl (deficit x.lists c)) with hfailed | hfull
      · rw [foldl_serveAny_of_failed hfailed]
        exact .inl hfailed
      · exact .inr ((Nat.le_of_sub_eq_zero hfull).trans (hrest.keeps_front c.slot).length_le)
    · exact ih hc _

/-- The walks of an edge leave everything as it was, or the last one that succeeded is seen. -/
theorem foldl_serveAny_last (claims : List PauseClaim) (x : Service) :
    ((claims.foldl (serveAny av live) x).lists = x.lists ∧ (claims.foldl (serveAny av live) x).pointer = x.pointer) ∨
      ∃ c ∈ claims, c.target = .any ∧ x.lastWalk av live c (claims.foldl (serveAny av live) x) := by
  induction claims generalizing x with
  | nil => exact .inl ⟨rfl, rfl⟩
  | cons c claims ih =>
    rw [List.foldl_cons]
    rcases ih (serveAny av live x c) with ⟨hlists, hpointer⟩ | ⟨d, hd, hany, l, u, ph, hlast, hlive, hpointer, hu⟩
    · by_cases hc : c.target = .any
      · rw [serveAny_any hc] at hlists hpointer ⊢
        rcases serveWalks_last (av := av) (live := live) (c := c) (n := deficit x.lists c) (x := x) with
          ⟨hsame, hstays⟩ | ⟨l, u, ph, hlast, hlive, hmoved, hu⟩
        · exact .inl ⟨hlists.trans hsame, hpointer.trans hstays⟩
        · exact .inr ⟨c, List.mem_cons_self, hc, l, u, ph, by rw [hlists, hlast], hlive, hpointer.trans hmoved, hu⟩
      · rw [serveAny_other hc] at hlists hpointer ⊢
        exact .inl ⟨hlists, hpointer⟩
    · exact .inr ⟨d, List.mem_cons_of_mem _ hd, hany, l, u, ph, hlast, hlive, hpointer, (serveAny_served x c).was_assignable hu⟩

end walks

end Sys2Proof.Machine

namespace Sys2Proof.Machine

/-! ## The pause block at an edge (R129) -/

/-- The claims of a demand set stand in slot order, one for a slot (R92); no released slot has one, and a FIXED claim is for one
unit (R95). -/
structure DemandSet.Orderly (d : DemandSet) : Prop where
  slotOrder : (d.claims.map (·.slot)).Pairwise (· < ·)
  notReleased : ∀ c ∈ d.claims, c.slot ∉ d.release
  fixedCount : ∀ c ∈ d.claims, ∀ u, c.target = .fixed u → c.count = 1

/-- The demand set of an edge is orderly. -/
theorem State.edgeDemand_orderly (k : EdgeKind) (s : State) : (s.edgeDemand k).Orderly where
  slotOrder := claims_pairwise
  notReleased c hc hrel := by
    obtain ⟨-, r, hr, hactive, -⟩ := pauseClaimOf_eq.mp (mem_claims.mp hc)
    exact (isReleased_iff.mp (mem_release.mp hrel)).2 ⟨r, hr, .inl hactive⟩
  fixedCount c hc u hu := by
    obtain ⟨-, r, -, -, htarget, -, hcount, -⟩ := pauseClaimOf_eq.mp (mem_claims.mp hc)
    rw [hcount, htarget, hu, if_neg nofun]

/-- R126: the availability as a staged report makes it. -/
def PauseBlock.reported (p : PauseBlock) : Vector Availability 12 := p.report.getD p.availability

/-- R137: the rotation table that the walks of an edge use. -/
def PauseBlock.walkTable (p : PauseBlock) : Vector (Option UnitId) 32 := if p.loadPending then p.shadow else p.live

/-- The lists as the claim service finds them: what is kept, each unit advanced by one interval (R126, R130, R131). -/
def PauseBlock.advanced (d : DemandSet) (p : PauseBlock) : Lists :=
  mapTable (fun i _ => (p.kept d i).map Assignment.advance) p.lists

/-- The lists once the FIXED claims are served (R132). -/
def PauseBlock.fixedServed (d : DemandSet) (p : PauseBlock) : Lists :=
  d.claims.foldl (serveFixed p.reported) (p.advanced d)

/-- The service once the ANY claims are served too (R133). -/
def PauseBlock.walked (d : DemandSet) (p : PauseBlock) : Service :=
  d.claims.foldl (serveAny p.reported p.walkTable) ⟨p.fixedServed d, p.walkStart, false⟩

section block
variable {d : DemandSet} {p : PauseBlock} {c : PauseClaim} {i : SlotId} {u : UnitId}

theorem PauseBlock.advanced_get : (p.advanced d)[i] = (p.kept d i).map Assignment.advance := mapTable_get _ _ i

theorem PauseBlock.applyReport_report (p : PauseBlock) :
    p.applyReport.availability = p.reported ∧ p.applyReport.report = none := by
  unfold PauseBlock.applyReport PauseBlock.reported
  split
  next h => exact ⟨by rw [h]; rfl, h⟩
  next h => exact ⟨by rw [h]; rfl, rfl⟩

theorem PauseBlock.applyLoad_report (p : PauseBlock) :
    p.applyLoad.availability = p.availability ∧ p.applyLoad.report = p.report := by
  unfold PauseBlock.applyLoad
  split <;> exact ⟨rfl, rfl⟩

theorem PauseBlock.release_kept (d : DemandSet) (p : PauseBlock) (i : SlotId) :
    (p.applyReport.applyLoad.release d).lists[i] = p.kept d i := by
  rw [PauseBlock.release_list, p.applyReport.applyLoad_lists.1, PauseBlock.applyReport_list]
  rfl

theorem PauseBlock.advancePhases_lists (d : DemandSet) (p : PauseBlock) :
    (p.applyReport.applyLoad.release d).advancePhases.lists = p.advanced d := by
  refine lists_ext fun i => ?_
  rw [PauseBlock.advancePhases, mapTable_get, PauseBlock.release_kept, PauseBlock.advanced_get]

/-- Steps 3 and 4 leave all but the lists and the lines. -/
theorem PauseBlock.release_advancePhases_frame (d : DemandSet) (p : PauseBlock) :
    (p.release d).advancePhases.availability = p.availability ∧ (p.release d).advancePhases.report = p.report ∧
      (p.release d).advancePhases.live = p.live ∧ (p.release d).advancePhases.pointer = p.pointer := by
  simp only [PauseBlock.advancePhases, PauseBlock.release, PauseBlock.withLists, and_self]

/-- What an edge makes of the lists, the pointer and the availability: steps 1 to 4, then the service of the claims. -/
theorem PauseBlock.atEdge_served (d : DemandSet) (ratings : Vector Nat 12) (p : PauseBlock) :
    (p.atEdge d ratings).lists = (p.walked d).lists ∧ (p.atEdge d ratings).pointer = (p.walked d).pointer ∧
      (p.atEdge d ratings).live = p.walkTable ∧ (p.atEdge d ratings).availability = p.reported ∧
      (p.atEdge d ratings).report = none := by
  obtain ⟨hav, hreport⟩ := p.applyReport_report
  obtain ⟨hav', hreport'⟩ := p.applyReport.applyLoad_report
  obtain ⟨hlive, hshadow, hpointer, hpending⟩ := p.applyReport_rotation
  obtain ⟨hlive', -, hpointer', -⟩ := p.applyReport.applyLoad_rotation
  obtain ⟨hav'', hreport'', hlive'', hpointer''⟩ := p.applyReport.applyLoad.release_advancePhases_frame d
  have hlists := p.advancePhases_lists d
  rw [hav', hav] at hav''
  rw [hreport', hreport] at hreport''
  rw [hlive', hpending, hshadow, hlive] at hlive''
  rw [hpointer', PauseBlock.walkStart, hpending, hpointer] at hpointer''
  rw [PauseBlock.atEdge]
  generalize (p.applyReport.applyLoad.release d).advancePhases = q at *
  rw [PauseBlock.serve, hav'', hlive'', hpointer'', hlists]
  exact ⟨rfl, rfl, rfl, rfl, hreport''⟩

/-! ### The services of an edge -/

theorem PauseBlock.fixedServed_served (d : DemandSet) (p : PauseBlock) :
    Served p.reported (fun c => c ∈ d.claims ∧ c.target ≠ .any) (p.advanced d) (p.fixedServed d) :=
  foldl_serveFixed_served _ _ _

theorem PauseBlock.walked_served (d : DemandSet) (p : PauseBlock) :
    Served p.reported (fun c => c ∈ d.claims ∧ c.target = .any) (p.fixedServed d) (p.walked d).lists :=
  foldl_serveAny_served d.claims ⟨p.fixedServed d, p.walkStart, false⟩

theorem PauseBlock.edge_served (d : DemandSet) (p : PauseBlock) :
    Served p.reported (· ∈ d.claims) (p.advanced d) (p.walked d).lists :=
  ((p.fixedServed_served d).mono fun _ h => h.1).trans ((p.walked_served d).mono fun _ h => h.1)

theorem Assignment.advance_unit (a : Assignment) : a.advance.unit = a.unit := by
  unfold Assignment.advance
  repeat' split
  all_goals rfl

/-- R131: one interval of service. -/
theorem Assignment.advance_eq (a : Assignment) :
    a.advance =
      if a.phase = .unload ∧ 1 < a.unloadLeft then { a with unloadLeft := a.unloadLeft - 1 }
      else if a.phase = .unload then { a with phase := .stop, unloadLeft := 0 }
      else a := by
  obtain ⟨u, phase, n⟩ := a
  cases phase with
  | stop => rfl
  | unload =>
    by_cases hn : n ≤ 1
    · simp [Assignment.advance, hn]
    · simp [Assignment.advance, hn, Nat.lt_of_not_le hn]

theorem PauseBlock.advanced_assigned : assigned (p.advanced d) u = true ↔ p.keeps d u := by
  simp only [assigned_iff, PauseBlock.advanced_get, List.mem_map, exists_exists_and_eq_and, Assignment.advance_unit, PauseBlock.keeps]

/-! ### What is kept -/

/-- What stays of a list once a report has taken its units off (R126). -/
theorem PauseBlock.kept_sublist (d : DemandSet) (p : PauseBlock) (i : SlotId) : (p.kept d i).Sublist p.lists[i] := by
  unfold PauseBlock.kept
  split
  · exact List.nil_sublist _
  · dsimp only
    split
    · exact (List.take_sublist _ _).trans List.filter_sublist
    · exact List.filter_sublist

theorem PauseBlock.kept_of_released (h : i ∈ d.release) : p.kept d i = [] := by rw [PauseBlock.kept, if_pos h]

variable (hd : d.Orderly)
include hd

theorem DemandSet.Orderly.slots_nodup : (d.claims.map (·.slot)).Nodup := hd.slotOrder.imp fun h => h.ne

theorem DemandSet.Orderly.claim_eq {x : PauseClaim} (hx : x ∈ d.claims) (hc : c ∈ d.claims) (h : x.slot = c.slot) : x = c :=
  List.inj_on_of_nodup_map hd.slots_nodup hx hc h

theorem DemandSet.Orderly.find_claim (hc : c ∈ d.claims) : (d.claims.find? fun x => decide (x.slot = c.slot)) = some c := by
  cases hfind : d.claims.find? fun x => decide (x.slot = c.slot) with
  | none => exact absurd (decide_eq_true rfl) (List.find?_eq_none.mp hfind c hc)
  | some x => rw [hd.claim_eq (List.mem_of_find?_eq_some hfind) hc (by simpa using List.find?_some hfind)]

/-- A claim keeps its count of the oldest units (R130). -/
theorem DemandSet.Orderly.kept_of_claim (hc : c ∈ d.claims) (p : PauseBlock) :
    p.kept d c.slot =
      (p.lists[c.slot].filter fun a => p.report.all fun av => decide (av[a.unit] = .available)).take c.count := by
  rw [PauseBlock.kept, if_neg (hd.notReleased c hc), hd.find_claim hc]

theorem DemandSet.Orderly.advanced_length_le (hc : c ∈ d.claims) : (p.advanced d)[c.slot].length ≤ c.count := by
  rw [PauseBlock.advanced_get, List.length_map, hd.kept_of_claim hc]
  exact List.length_take_le _ _

theorem DemandSet.Orderly.walked_length_le (hc : c ∈ d.claims) : (p.walked d).lists[c.slot].length ≤ c.count :=
  (p.edge_served d).length_le (fun _ hx => hd.claim_eq hx hc) (hd.advanced_length_le hc)

/-- An AVAILABLE unit of the list of a claim that keeps less than its count is kept. -/
theorem DemandSet.Orderly.mem_kept {a : Assignment} (hc : c ∈ d.claims) (hroom : (p.kept d c.slot).length < c.count)
    (ha : a ∈ p.lists[c.slot]) (hav : p.reported[a.unit] = .available) : a ∈ p.kept d c.slot := by
  have hkept := hd.kept_of_claim hc p
  rw [List.take_of_length_le] at hkept
  · rw [hkept]
    refine List.mem_filter.mpr ⟨ha, ?_⟩
    cases hr : p.report with
    | none => rfl
    | some av =>
      rw [PauseBlock.reported, hr] at hav
      exact decide_eq_true hav
  · rw [hkept, List.length_take] at hroom
    omega

end block
end Sys2Proof.Machine

namespace Sys2Proof.Machine

/-- What an edge leaves of the pause block: the services, over the table and the availability that the edge makes live. -/
theorem State.afterEdge_served (k : EdgeKind) (s : State) :
    (s.afterEdge k).pause.lists = (s.pause.walked (s.edgeDemand k)).lists ∧
      (s.afterEdge k).pause.pointer = (s.pause.walked (s.edgeDemand k)).pointer ∧
      (s.afterEdge k).pause.live = s.pause.walkTable ∧ (s.afterEdge k).pause.availability = s.pause.reported ∧
      (s.afterEdge k).pause.report = none := by
  have hedge := s.pause.atEdge_served (s.edgeDemand k) s.grantedFlow.live.ratings
  rw [State.afterEdge_pause_frame, State.edgePause]
  generalize s.pause.atEdge (s.edgeDemand k) s.grantedFlow.live.ratings = q at *
  exact hedge

theorem State.afterEdge_lists (k : EdgeKind) (s : State) :
    (s.afterEdge k).pause.lists = (s.pause.walked (s.edgeDemand k)).lists := (s.afterEdge_served k).1

/-- The unit order set of an edge follows the lists that the edge leaves. -/
theorem State.edgeOrders_units (k : EdgeKind) (s : State) :
    (s.edgeOrders k).units = unitOrders (s.afterEdge k).pause.availability (s.afterEdge k).pause.lists := by
  rw [(s.edgeOrders_eq k).1, State.afterEdge_pause_frame]

/-! ## A law of the lists and the lines that every step keeps -/

/-- Every piece of work on the lists and the order lines keeps `P`, which looks at these and at the waiting order frame alone. -/
structure KeepsPause (P : State → Prop) : Prop where
  congr : ∀ s t, t.pause.lists = s.pause.lists → t.pause.lines = s.pause.lines → t.out.waitOrder = s.out.waitOrder → P s → P t
  reset : P State.reset
  stop : ∀ s, P s → P s.stopNow
  edge : ∀ k s, P s → P (s.afterEdge k)
  frameDone : ∀ s, P s → P s.frameDone

theorem State.startNow_waitOrder (s : State) : s.startNow.out.waitOrder = s.out.waitOrder := by
  unfold State.startNow
  dsimp only
  split <;> simp

theorem reportUnits_lists (l : List (Option Availability)) (s : State) :
    (reportUnits l s).1.pause.lists = s.pause.lists ∧ (reportUnits l s).1.pause.lines = s.pause.lines := by
  unfold reportUnits
  split <;> exact ⟨rfl, rfl⟩

theorem loadRotation_lists (l : List Nat) (s : State) :
    (loadRotation l s).1.pause.lists = s.pause.lists ∧ (loadRotation l s).1.pause.lines = s.pause.lines := by
  unfold loadRotation
  split <;> exact ⟨rfl, rfl⟩

/-- What is kept of the lists and the lines by the work on them is kept by all the work of the part. -/
theorem KeepsPause.keeps {P : State → Prop} (K : KeepsPause P) : Keeps P where
  queue _ _ _ _ := K.congr _ _ (by simp) (by simp) (by simp)
  hold _ _ _ := K.congr _ _ (by simp) (by simp) (by simp)
  answer _ _ _ := K.congr _ _ (by simp) (by simp) (by simp)
  openWindow _ _ _ _ _ := K.congr _ _ (by simp) (by simp) (by simp)
  amendWindow _ _ _ _ _ := K.congr _ _ (by simp) (by simp) (by simp)
  retireWindow _ _ _ _ _ := K.congr _ _ (by simp) (by simp) (by simp)
  purge _ _ _ _ := K.congr _ _ (by simp) (by simp) (by simp)
  readWindow _ _ _ _ := K.congr _ _ (by simp) (by simp) (by simp)
  reportInflow _ _ _ _ := K.congr _ _ (by simp) (by simp) (by simp)
  reportUnits l s _ _ := K.congr _ _ (reportUnits_lists l s).1 (reportUnits_lists l s).2 (by simp)
  setBinding _ _ _ _ := K.congr _ _ (by simp) (by simp) (by simp)
  setSettings _ _ _ _ := K.congr _ _ (by simp) (by simp) (by simp)
  loadRotation l s _ _ := K.congr _ _ (loadRotation_lists l s).1 (loadRotation_lists l s).2 (by simp)
  setLine _ _ _ _ := K.congr _ _ (by simp) (by simp) (by simp)
  ackLines _ _ _ _ := K.congr _ _ (by simp) (by simp) (by simp)
  setCondition _ _ _ _ := K.congr _ _ (by simp) (by simp) (by simp)
  setConditionSource _ _ _ _ := K.congr _ _ (by simp) (by simp) (by simp)
  start b s _ _ hs := by
    unfold Machine.start
    split
    · exact K.congr _ _ (by simp) (by simp) s.startNow_waitOrder hs
    · exact hs
  stop b s _ _ hs := by
    unfold Machine.stop
    split
    · exact hs
    · exact K.stop s hs
  setHostHold _ _ _ _ _ := K.congr _ _ (by simp) (by simp) (by simp)
  ackCauses _ _ _ _ := K.congr _ _ (by simp) (by simp) (by simp)
  setAlertMask _ _ _ _ := K.congr _ _ (by simp) (by simp) (by simp)
  clearTracking _ _ _ _ := K.congr _ _ (by simp) (by simp) (by simp)
  frameEnd _ _ _ _ := K.congr _ _ (by simp) (by simp) (by simp)
  timed _ _ _ _ := K.congr _ _ (by simp) (by simp) (by simp)
  lostMark _ _ _ _ := K.congr _ _ (by simp) (by simp) (by simp)
  markBefore _ := K.congr _ _ (by simp) (by simp) (by simp)
  lineBefore _ _ _ := K.congr _ _ (by simp) (by simp) (by simp)
  markSample _ _ _ _ := K.congr _ _ (by simp) (by simp) (by simp)
  holdSample _ _ _ := K.congr _ _ (by simp) (by simp) (by simp)
  edge k s _ _ := K.edge k s
  frameDone s _ _ := K.frameDone s
  lineSample _ _ _ _ := K.congr _ _ (by simp) (by simp) (by simp)
  latch _ _ _ := K.congr _ _ (by simp) (by simp) (by simp)
  scrubDue _ _ := K.congr _ _ (by simp) (by simp) (by simp)
  scrub _ _ _ := K.congr _ _ (by simp) (by simp) (by simp)
  free _ s := K.congr s _ rfl rfl rfl
  toReset _ _ := K.congr State.reset _ rfl rfl rfl K.reset
  fromReset _ _ _ := K.congr State.reset _ rfl rfl rfl K.reset
  pending _ s := K.congr s _ rfl rfl rfl

/-! ## O56: the lists and the lines -/

/-! ### Each unit is on one list -/

theorem State.unitsOnce_iff (s : State) : s.UnitsOnce ↔ unitsOnce s.pause.lists := by
  rw [State.UnitsOnce, List.nodup_flatMap, unitsOnce]
  refine and_congr ⟨fun h i => h _ (by simp), fun h l hl => ?_⟩ ⟨fun h i j hij => ?_, fun h => ?_⟩
  · obtain ⟨i, hi, rfl⟩ := Vector.mem_iff_getElem.mp (Vector.mem_toList_iff.mp hl)
    exact h ⟨i, hi⟩
  · have hpair (i j : SlotId) (hlt : i < j) : (s.pause.lists[i].map (·.unit)).Disjoint (s.pause.lists[j].map (·.unit)) := by
      simpa using List.pairwise_iff_getElem.mp h i j (by simp) (by simp) hlt
    intro a ha b hb hab
    rcases lt_or_gt_of_ne hij with hlt | hlt
    · exact hpair i j hlt (List.mem_map_of_mem ha) (hab ▸ List.mem_map_of_mem hb)
    · exact hpair j i hlt (List.mem_map_of_mem hb) (hab ▸ List.mem_map_of_mem ha)
  · refine List.pairwise_iff_getElem.mpr fun i j hi hj hlt => ?_
    have hi' : i < 64 := by simpa using hi
    have hj' : j < 64 := by simpa using hj
    intro u hu hu'
    obtain ⟨a, ha, rfl⟩ := List.mem_map.mp hu
    obtain ⟨b, hb, hab⟩ := List.mem_map.mp hu'
    exact h ⟨i, hi'⟩ ⟨j, hj'⟩ (Fin.ne_of_lt hlt) a (by simpa using ha) b (by simpa using hb) hab.symm

theorem unitsOnce_empty : unitsOnce (Vector.replicate 64 []) := by
  refine ⟨fun i => ?_, fun i j _ a ha => ?_⟩
  · simp
  · simp at ha

/-- What an edge keeps and advances has each unit once where the lists had. -/
theorem PauseBlock.unitsOnce_advanced {p : PauseBlock} (d : DemandSet) (h : unitsOnce p.lists) :
    unitsOnce (p.advanced d) := by
  obtain ⟨honce, hapart⟩ := h
  have hunits (i : SlotId) : (p.advanced d)[i].map (·.unit) = (p.kept d i).map (·.unit) := by
    rw [PauseBlock.advanced_get, List.map_map]
    exact List.map_congr_left fun a _ => a.advance_unit
  have hfrom (i : SlotId) : ∀ a ∈ (p.advanced d)[i], ∃ b ∈ p.lists[i], b.unit = a.unit := fun a ha => by
    rw [PauseBlock.advanced_get] at ha
    obtain ⟨b, hb, rfl⟩ := List.mem_map.mp ha
    exact ⟨b, (p.kept_sublist d i).subset hb, b.advance_unit.symm⟩
  refine ⟨fun i => ?_, fun i j hij a ha b hb => ?_⟩
  · rw [hunits]
    exact (honce i).sublist ((p.kept_sublist d i).map _)
  · obtain ⟨a', ha', hau⟩ := hfrom i a ha
    obtain ⟨b', hb', hbu⟩ := hfrom j b hb
    rw [← hau, ← hbu]
    exact hapart i j hij a' ha' b' hb'

theorem keepsPause_unitsOnce : KeepsPause State.UnitsOnce where
  congr s t hlists _ _ := by rw [State.unitsOnce_iff, State.unitsOnce_iff, hlists]; exact id
  reset := by
    obtain ⟨-, -, -, -, honce, -⟩ := reset_sound
    exact honce
  stop s _ := (State.unitsOnce_iff _).mpr unitsOnce_empty
  edge k s h := by
    rw [State.unitsOnce_iff] at h ⊢
    rw [State.afterEdge_lists]
    exact (s.pause.edge_served _).keeps_unitsOnce (PauseBlock.unitsOnce_advanced _ h)
  frameDone s h := by
    have hlists : s.frameDone.pause.lists = s.pause.lists := by
      unfold State.frameDone
      repeat' split
      all_goals rfl
    rwa [State.unitsOnce_iff, hlists, ← State.unitsOnce_iff]

/-! ### The lines agree with the lists -/

/-- R139: an order raises one line at most, and none where there is no order. -/
theorem orderLines_agree (o : Option Phase) :
    (orderLines o ≠ .run → o ≠ none) ∧ ¬((orderLines o).unload = true ∧ (orderLines o).stop = true) := by
  rcases o with _ | _ | _
  · exact ⟨fun h => absurd rfl h, nofun⟩
  · exact ⟨fun _ => nofun, nofun⟩
  · exact ⟨fun _ => nofun, nofun⟩

/-- Lines set from orders agree where the orders are of units on a list. -/
theorem orderLines_agree_of_held {lists : Lists} {units : Vector UnitOrder 12} {lines : Vector LinePair 12}
    (hlines : lines = mapTable (fun _ x => orderLines x.order) units) (h : ordersHeld lists units) :
    (∀ u : UnitId, lines[u] ≠ .run → assigned lists u = true) ∧
      ∀ u : UnitId, ¬(lines[u].unload = true ∧ lines[u].stop = true) := by
  subst hlines
  refine ⟨fun u hu => ?_, fun u => ?_⟩
  · rw [mapTable_get] at hu
    exact h u ((orderLines_agree _).1 hu)
  · rw [mapTable_get]
    exact (orderLines_agree _).2

theorem ordersHeld_unitOrders (av : Vector Availability 12) (lists : Lists) : ordersHeld lists (unitOrders av lists) := by
  intro u hu
  refine Bool.eq_true_of_not_eq_false fun hfree => hu ?_
  rw [unitOrders_of_unassigned hfree]

/-- A unit kept at an edge is on a list after it. -/
theorem State.afterEdge_assigned {k : EdgeKind} {s : State} {u : UnitId} (h : s.pause.keeps (s.edgeDemand k) u) :
    assigned (s.afterEdge k).pause.lists u = true := by
  rw [State.afterEdge_lists]
  exact (s.pause.edge_served _).stays_assigned (PauseBlock.advanced_assigned.mpr h)

/-- Where the frame of an edge waits, a line that is still high was high, and its unit is kept. -/
theorem State.linesAgree_edge_waiting {k : EdgeKind} {s : State} (h : s.LinesAgree) (u : UnitId) :
    ((s.edgePause k).lines[u] ≠ .run → assigned (s.afterEdge k).pause.lists u = true) ∧
      ¬((s.edgePause k).lines[u].unload = true ∧ (s.edgePause k).lines[u].stop = true) := by
  obtain ⟨hhigh, hboth, -⟩ := h
  obtain ⟨hkeep, hdrop⟩ : (s.pause.keeps (s.edgeDemand k) u ∨ assigned s.pause.lists u = false →
        (s.edgePause k).lines[u] = s.pause.lines[u]) ∧
      (assigned s.pause.lists u = true → ¬s.pause.keeps (s.edgeDemand k) u → (s.edgePause k).lines[u] = .run) :=
    s.pause.atEdge_line _ _ u
  by_cases hk : s.pause.keeps (s.edgeDemand k) u
  · rw [hkeep (.inl hk)]
    exact ⟨fun _ => State.afterEdge_assigned hk, hboth u⟩
  · cases ha : assigned s.pause.lists u with
    | true =>
      rw [hdrop ha hk]
      exact ⟨fun hne => absurd rfl hne, nofun⟩
    | false =>
      rw [hkeep (.inr ha)]
      exact ⟨fun hne => absurd (ha.symm.trans (hhigh u hne)) Bool.false_ne_true, hboth u⟩

theorem State.linesAgree_edge {k : EdgeKind} {s : State} (h : s.LinesAgree) : (s.afterEdge k).LinesAgree := by
  have horders : ordersHeld (s.afterEdge k).pause.lists (s.edgeOrders k).units := by
    rw [State.edgeOrders_units]
    exact ordersHeld_unitOrders _ _
  by_cases hidle : s.out.sending.isNone = true
  · have hlines : (s.afterEdge k).pause.lines = mapTable (fun _ x => orderLines x.order) (s.edgeOrders k).units := by
      rw [State.afterEdge_pause, if_pos hidle]
    have hwait : (s.afterEdge k).out.waitOrder = none := by rw [State.afterEdge_out, if_pos hidle]
    obtain ⟨hhigh, hboth⟩ := orderLines_agree_of_held hlines horders
    exact ⟨hhigh, hboth, fun f units hf => nomatch hwait.symm.trans hf⟩
  · have hlines : (s.afterEdge k).pause.lines = (s.edgePause k).lines := by rw [State.afterEdge_pause, if_neg hidle]
    have hwait : (s.afterEdge k).out.waitOrder = some (orderFrame (s.edgeRecord k), (s.edgeOrders k).units) := by
      rw [State.afterEdge_out, if_neg hidle]
    refine ⟨fun u => ?_, fun u => ?_, fun f units hf => ?_⟩
    · rw [hlines]
      exact (State.linesAgree_edge_waiting h u).1
    · rw [hlines]
      exact (State.linesAgree_edge_waiting (k := k) h u).2
    · cases hwait.symm.trans hf
      exact horders

/-! ### The end of a frame (R189) -/

theorem State.frameDone_standDown {s : State} {f : OrderFrame} (h : s.out.waitStandDown = some f) :
    s.frameDone = { s with out := { s.out with sending := some f, waitStandDown := none } } := by
  simp only [State.frameDone, h]

theorem State.frameDone_order {s : State} {f : OrderFrame} {units : Vector UnitOrder 12} (hnone : s.out.waitStandDown = none)
    (h : s.out.waitOrder = some (f, units)) :
    s.frameDone =
      { s with
        out := { s.out with sending := some f, waitOrder := none, sentSinceStart := true }
        pause := { s.pause with lines := mapTable (fun _ x => orderLines x.order) units } } := by
  simp only [State.frameDone, State.beginOrder, OrderOutput.discardOrder, hnone, h]

theorem State.frameDone_idle {s : State} (hnone : s.out.waitStandDown = none) (h : s.out.waitOrder = none) :
    s.frameDone = { s with out := { s.out with sending := none } } := by
  simp only [State.frameDone, hnone, h]

theorem State.linesAgree_frameDone {s : State} (h : s.LinesAgree) : s.frameDone.LinesAgree := by
  obtain ⟨hhigh, hboth, hheld⟩ := h
  cases hdown : s.out.waitStandDown with
  | some f =>
    rw [State.frameDone_standDown hdown]
    exact ⟨hhigh, hboth, hheld⟩
  | none =>
    cases horder : s.out.waitOrder with
    | some w =>
      obtain ⟨f, units⟩ := w
      rw [State.frameDone_order hdown horder]
      obtain ⟨hhigh', hboth'⟩ := orderLines_agree_of_held rfl (hheld f units horder)
      exact ⟨hhigh', hboth', nofun⟩
    | none =>
      rw [State.frameDone_idle hdown horder]
      exact ⟨hhigh, hboth, hheld⟩

theorem keepsPause_linesAgree : KeepsPause State.LinesAgree where
  congr s t hlists hlines hwait := by
    simp only [State.LinesAgree, hlists, hlines, hwait]
    exact id
  reset := reset_linesAgree
  stop s _ := by
    have hlow (u : UnitId) : s.stopNow.pause.lines[u] = .run := Vector.getElem_replicate _
    refine ⟨fun u h => absurd (hlow u) h, fun u => ?_, fun f units h => ?_⟩
    · rw [hlow]
      nofun
    · exact nomatch (s.out.standDown_frame s.time.interval).1.symm.trans h
  edge k s := State.linesAgree_edge
  frameDone s := State.linesAgree_frameDone

/-- Settles O56: the lists by the placements of an edge, the lines by what an edge drops and what a frame's beginning sets. -/
theorem unitListAndLineLawsAreKept : Obligations.UnitListAndLineLawsAreKept :=
  ⟨fun _ _ hs h => keepsPause_unitsOnce.keeps.step hs h, fun _ _ hs h => keepsPause_linesAgree.keeps.step hs h⟩

/-! ## O50: the end of a frame -/

/-- Settles O50: what waits decides what begins. -/
theorem frameEndStartsTheNextFrame : Obligations.FrameEndStartsTheNextFrame := by
  intro s h0
  have hexec : exec .frameTransmitDone s = .next (if s.out.sending.isSome then s.frameDone else s) := by
    rw [exec_frameTransmitDone, outsideReset_act h0]
  refine ⟨fun hidle => by rw [hexec, hidle]; rfl, fun g hg => ?_⟩
  rw [hexec, if_pos (by rw [hg]; rfl)]
  refine ⟨fun f hf => congrArg _ (State.frameDone_standDown hf), fun f units hnone hf => ?_,
    fun hnone hnone' => congrArg _ (State.frameDone_idle hnone hnone')⟩
  have hlines : mapTable (fun _ x => orderLines x.order) units =
      Vector.ofFn fun u : Fin 12 =>
        { unload := decide (units[u].order = some .unload), stop := decide (units[u].order = some .stop) } :=
    congrArg Vector.ofFn (funext fun u => orderLines_eq _)
  rw [State.frameDone_order hnone hf, hlines]

/-! ## O30: the lists at an edge -/

/-- R130: of a list that is not released the oldest units are kept, by the count of the slot's claim where it has one. -/
theorem DemandSet.Orderly.kept_of_unreleased {d : DemandSet} {p : PauseBlock} {i : SlotId} {n : Nat} (hd : d.Orderly)
    (hrel : i ∉ d.release) (hclaim : ∀ c ∈ d.claims, c.slot = i → n = c.count)
    (hnone : (∀ c ∈ d.claims, c.slot ≠ i) → p.lists[i].length ≤ n) :
    p.kept d i = (p.lists[i].filter fun a => p.report.all fun av => decide (av[a.unit] = .available)).take n := by
  by_cases h : ∃ c ∈ d.claims, c.slot = i
  · obtain ⟨c, hc, rfl⟩ := h
    rw [hd.kept_of_claim hc, hclaim c hc rfl]
  · have hno : ∀ c ∈ d.claims, c.slot ≠ i := fun c hc hslot => h ⟨c, hc, hslot⟩
    have hfind : (d.claims.find? fun c => decide (c.slot = i)) = none := by simpa using hno
    rw [PauseBlock.kept, if_neg hrel, hfind, List.take_of_length_le ((List.length_filter_le _ _).trans (hnone hno))]

/-- R126: a unit leaves its list where a report makes it OUT_OF_SERVICE. -/
theorem PauseBlock.reported_stays (p : PauseBlock) (a : Assignment) :
    (p.report.all fun av => decide (av[a.unit] = .available)) =
      (decide (p.report = none) || decide (p.reported[a.unit] = .available)) := by
  unfold PauseBlock.reported
  cases p.report <;> rfl

/-- Settles O30: what is kept of a list, and what the claim service places at its end. -/
theorem edgeWorksTheAssignmentLists : Obligations.EdgeWorksTheAssignmentLists := by
  intro k i s hg
  obtain ⟨hlists, -, -, hav, hreport⟩ := s.afterEdge_served k
  obtain ⟨new, hnew, hplaced⟩ := (s.pause.edge_served (s.edgeDemand k)).list i
  refine ⟨_, s.edgeDemand k, s.pause.kept (s.edgeDemand k) i, new, exec_afterEdge hg, s.afterEdge_demand k, hreport, hav, ?_,
    PauseBlock.kept_of_released, fun hrel n hclaim hnone => ?_, fun a ha => ?_⟩
  · rw [hlists, hnew, PauseBlock.advanced_get, List.map_congr_left fun a _ => a.advance_eq]
  · rw [hav, (s.edgeDemand_orderly k).kept_of_unreleased hrel hclaim hnone]
    exact congrArg (List.take n) (List.filter_congr fun a _ => s.pause.reported_stays a)
  · obtain ⟨hfree, c, hc, hslot, hfixed, hentry⟩ := hplaced a ha
    rw [hav]
    refine ⟨(assignable_iff.mp hfree).1, c, hc, hslot, hfixed, ?_, ?_⟩
    · rw [hentry]; rfl
    · rw [hentry]; rfl

end Sys2Proof.Machine

namespace Sys2Proof.Machine

/-! ## O31: the claims -/

/-! ### SHORT_ASSIGN (R134) -/

theorem PauseBlock.short_iff {claims : List PauseClaim} {p : PauseBlock} :
    p.short claims = true ↔ ∃ c ∈ claims, p.lists[c.slot].length < c.count := by
  simp only [PauseBlock.short, List.any_eq_true, decide_eq_true_eq, deficit_pos]

/-- R134: after the walk SHORT_ASSIGN is set where the claim service leaves a deficit, and by nothing else. -/
theorem State.serveEdge_shortAssign (d : DemandSet) (s : State) :
    (s.serveEdge d).hasCause .shortAssign =
      ((s.pause.atEdge d s.flow.live.ratings).short d.claims || s.hasCause .shortAssign) := by
  have hframe (f : OrderFrame) (units : Vector UnitOrder 12) (t : State) :
      (t.handFrame f units).hasCause .shortAssign = t.hasCause .shortAssign := State.hasCause_congr (by simp) _
  have hwrite (r : IntervalRecord) (t : State) : (t.writeBack d r).hasCause .shortAssign = t.hasCause .shortAssign :=
    State.hasCause_congr (by simp) _
  have hflow (a : Apportioner) (t : State) :
      State.hasCause .shortAssign { t with flow := a } = t.hasCause .shortAssign := State.hasCause_congr rfl _
  have hblock (p : PauseBlock) : State.hasCause .shortAssign { s with demand := some d, pause := p } =
      s.hasCause .shortAssign := State.hasCause_congr rfl _
  rw [State.serveEdge, hwrite, hframe, State.apportion, State.raiseEdgeCauses_hasCause, hflow, State.pauseWork,
    State.setCauseIf_hasCause, hblock, decide_eq_true rfl, Bool.and_true]
  rfl

theorem State.afterEdge_shortAssign (k : EdgeKind) (s : State) :
    (s.afterEdge k).hasCause .shortAssign = true ↔
      (∃ c ∈ (s.edgeDemand k).claims, (s.afterEdge k).pause.lists[c.slot].length < c.count) ∨
        s.hasCause .shortAssign = true := by
  have hpass : ((s.openEdge k).passEdge k).hasCause .shortAssign = s.hasCause .shortAssign :=
    State.edgePass_hasCause (by decide) k s
  have hblock : (((s.openEdge k).passEdge k).pause.atEdge (s.edgeDemand k) ((s.openEdge k).passEdge k).flow.live.ratings) =
      s.edgePause k := by
    simp [State.edgePause]
  have hlists : (s.afterEdge k).pause.lists = (s.edgePause k).lists := by rw [State.afterEdge_pause_frame]
  rw [State.hasCause_congr (s.afterEdge_causes k), State.edgeWork, State.driveAlert_hasCause,
    show (s.openEdge k).slots = s.slots from rfl, State.demandOf_passEdge, State.serveEdge_shortAssign, hpass, hblock,
    Bool.or_eq_true, PauseBlock.short_iff, hlists]

/-! ### The walks as a fold over the ANY claims -/

section walks
variable {av : Vector Availability 12} {live : Vector (Option UnitId) 32} {c : PauseClaim}

theorem foldl_serveWalks_any (claims : List PauseClaim) (x : Service) :
    (claims.filter fun c => decide (c.target = .any)).foldl
        (fun x c => serveWalks av live c (c.count - x.lists[c.slot].length) x) x =
      claims.foldl (serveAny av live) x := by
  rw [List.foldl_filter]
  congr 1
  funext x c
  by_cases hc : c.target = .any
  · rw [if_pos (decide_eq_true hc), serveAny_any hc]
    rfl
  · rw [if_neg (by simpa using hc), serveAny_other hc]

/-- With one ANY claim its walks are all. -/
theorem foldl_serveAny_one {claims : List PauseClaim} (hnodup : claims.Nodup) (hc : c ∈ claims)
    (hone : ∀ x ∈ claims, x.target = .any → x = c) (x : Service) :
    claims.foldl (serveAny av live) x = serveAny av live x c := by
  induction claims with
  | nil => cases hc
  | cons y claims ih =>
    obtain ⟨hy, hnodup⟩ := List.nodup_cons.mp hnodup
    have hrest : ∀ x ∈ claims, x.target = .any → x = c := fun x hx => hone x (List.mem_cons_of_mem _ hx)
    rw [List.foldl_cons]
    rcases List.mem_cons.mp hc with rfl | hc
    · exact serveAny_foldl_of_no_any (fun x hx hany => hy (hrest x hx hany ▸ hx)) _ _ _
    · rw [serveAny_other fun hany => hy (hone y List.mem_cons_self hany ▸ hc), ih hnodup hc hrest]

/-- One walk for a claim that has no unit and asks for one. -/
theorem serveAny_single (hany : c.target = .any) (hcount : c.count = 1) {lists : Lists} (hempty : lists[c.slot] = [])
    (pointer : PhaseId) :
    (∀ ph u, walkFrom av live lists pointer = some (ph, u) →
      (serveAny av live ⟨lists, pointer, false⟩ c).lists[c.slot] = [c.newEntry u] ∧
        (serveAny av live ⟨lists, pointer, false⟩ c).pointer = ph + 1) ∧
    (walkFrom av live lists pointer = none →
      (serveAny av live ⟨lists, pointer, false⟩ c).lists[c.slot] = [] ∧
        (serveAny av live ⟨lists, pointer, false⟩ c).pointer = pointer) := by
  have hdeficit : deficit lists c = 0 + 1 := by rw [deficit, hcount, hempty]; rfl
  rw [serveAny_any hany, hdeficit]
  refine ⟨fun ph u h => ?_, fun h => ?_⟩
  · rw [serveWalks_some h]
    exact ⟨by rw [serveWalks, assign_get_same, hempty]; rfl, rfl⟩
  · rw [serveWalks_none h]
    exact ⟨hempty, rfl⟩

end walks

/-! ### What the services of an edge come to -/

section block
variable {d : DemandSet} {p : PauseBlock} {c : PauseClaim} {u : UnitId} (hd : d.Orderly)
include hd

/-- The FIXED claims leave the lists of the ANY claims. -/
theorem DemandSet.Orderly.fixedServed_any (hc : c ∈ d.claims) (hany : c.target = .any) :
    (p.fixedServed d)[c.slot] = (p.advanced d)[c.slot] :=
  (p.fixedServed_served d).unclaimed fun _ ⟨hx, hfixed⟩ hslot => hfixed (hd.claim_eq hx hc hslot ▸ hany)

/-- The ANY claims leave the lists of the FIXED claims. -/
theorem DemandSet.Orderly.walked_fixed (hc : c ∈ d.claims) (hfixed : c.target ≠ .any) :
    (p.walked d).lists[c.slot] = (p.fixedServed d)[c.slot] :=
  (p.walked_served d).unclaimed fun _ ⟨hx, hany⟩ hslot => hfixed (hd.claim_eq hx hc hslot ▸ hany)

/-- The walks begin where the FIXED claims have left the lists (R132). -/
theorem DemandSet.Orderly.beforeWalks_eq (p : PauseBlock) : p.beforeWalks d (p.walked d).lists = p.fixedServed d := by
  refine lists_ext fun i => ?_
  simp only [PauseBlock.beforeWalks, Fin.getElem_fin, Vector.getElem_ofFn, Fin.eta]
  split
  next h =>
    obtain ⟨c, hc, hslot⟩ := List.any_eq_true.mp h
    obtain ⟨rfl, hany⟩ := of_decide_eq_true hslot
    exact ((hd.fixedServed_any hc hany).trans PauseBlock.advanced_get).symm
  next h =>
    refine (p.walked_served d).unclaimed fun c ⟨hc, hany⟩ hslot => h ?_
    exact List.any_eq_true.mpr ⟨c, hc, decide_eq_true ⟨hslot, hany⟩⟩

/-- The walks of the ANY claims alone, from where they begin, come to the whole service. -/
theorem DemandSet.Orderly.walks_eq (p : PauseBlock) :
    (d.claims.filter fun c => decide (c.target = .any)).foldl
        (fun x c => serveWalks p.reported p.walkTable c (c.count - x.lists[c.slot].length) x)
        ⟨p.beforeWalks d (p.walked d).lists, p.walkStart, false⟩ =
      ⟨(p.walked d).lists, (p.walked d).pointer, (p.walked d).failed⟩ := by
  rw [foldl_serveWalks_any, hd.beforeWalks_eq, show d.claims.foldl _ _ = p.walked d from rfl]

/-- A unit that a walk gives to a claim was not on the list of the claim's slot before the edge: had it been and not been kept,
it would be out of service, or the claim would have kept its count of older ones. -/
theorem DemandSet.Orderly.walked_new (hc : c ∈ d.claims) {l : List Assignment}
    (hlast : (p.walked d).lists[c.slot] = l ++ [c.newEntry u])
    (hu : assignable p.reported (p.fixedServed d) u = true) : ∀ b ∈ p.lists[c.slot], b.unit ≠ u := by
  rintro b hb rfl
  obtain ⟨hav, hfree⟩ := assignable_iff.mp ((p.fixedServed_served d).was_assignable hu)
  have hnot : ∀ a ∈ (p.advanced d)[c.slot], a.unit ≠ b.unit := assigned_eq_false.mp hfree c.slot
  obtain ⟨new, hnew, -⟩ := (p.edge_served d).list c.slot
  have hroom : (p.kept d c.slot).length < c.count := by
    have hmem : c.newEntry b.unit ∈ (p.advanced d)[c.slot] ++ new := by
      rw [← hnew, hlast]
      exact List.mem_append_right _ (List.mem_singleton_self _)
    have hpos := List.length_pos_of_mem ((List.mem_append.mp hmem).resolve_left fun h => hnot _ h rfl)
    have hle := hd.walked_length_le (p := p) hc
    rw [hnew, List.length_append, PauseBlock.advanced_get, List.length_map] at hle
    omega
  refine hnot b.advance ?_ b.advance_unit
  rw [PauseBlock.advanced_get]
  exact List.mem_map_of_mem (hd.mem_kept hc hroom hb hav)

/-- R133, R136: where no ANY claim is given a unit that its slot had not, the pointer stays where the walks start. -/
theorem DemandSet.Orderly.pointer_stays
    (h : ∀ c ∈ d.claims, c.target = .any → ∀ a ∈ (p.walked d).lists[c.slot], ∃ b ∈ p.lists[c.slot], b.unit = a.unit) :
    (p.walked d).pointer = p.walkStart := by
  rcases foldl_serveAny_last (av := p.reported) (live := p.walkTable) d.claims ⟨p.fixedServed d, p.walkStart, false⟩ with
    ⟨-, hpointer⟩ | ⟨c, hc, hany, l, u, ph, hlast, -, -, hu⟩
  · exact hpointer
  · obtain ⟨b, hb, hbu⟩ := h c hc hany (c.newEntry u) (hlast ▸ List.mem_append_right _ (List.mem_singleton_self _))
    exact absurd hbu (hd.walked_new hc hlast hu b hb)

/-- R136: where one is, the pointer is left after the phase of the last walk. -/
theorem DemandSet.Orderly.pointer_moves {a : Assignment} (hc : c ∈ d.claims) (hany : c.target = .any)
    (ha : a ∈ (p.walked d).lists[c.slot]) (hnew : ∀ b ∈ p.lists[c.slot], b.unit ≠ a.unit) :
    ∃ c ∈ d.claims, c.target = .any ∧ ∃ l u ph, (p.walked d).lists[c.slot] = l ++ [c.newEntry u] ∧
      p.walkTable[ph] = some u ∧ (p.walked d).pointer = ph + 1 := by
  rcases foldl_serveAny_last (av := p.reported) (live := p.walkTable) d.claims ⟨p.fixedServed d, p.walkStart, false⟩ with
    ⟨hlists, -⟩ | ⟨c, hc, hany, l, u, ph, hlast, hlive, hpointer, -⟩
  · have hsame : (p.walked d).lists = p.fixedServed d := hlists
    rw [hsame, hd.fixedServed_any hc hany, PauseBlock.advanced_get] at ha
    obtain ⟨b, hb, rfl⟩ := List.mem_map.mp ha
    exact absurd b.advance_unit.symm (hnew b ((p.kept_sublist d c.slot).subset hb))
  · exact ⟨c, hc, hany, l, u, ph, hlast, hlive, hpointer⟩

/-- The walk of the only ANY claim, for one unit and with none on its list. -/
theorem DemandSet.Orderly.one_walk (hc : c ∈ d.claims) (hany : c.target = .any)
    (hone : ∀ x ∈ d.claims, x.target = .any → x = c) (hcount : c.count = 1) (hempty : p.lists[c.slot] = []) :
    (∀ ph u, walkFrom p.reported p.walkTable ((p.walked d).lists.set c.slot []) p.walkStart = some (ph, u) →
      (p.walked d).lists[c.slot] = [c.newEntry u] ∧ (p.walked d).pointer = ph + 1) ∧
    (walkFrom p.reported p.walkTable ((p.walked d).lists.set c.slot []) p.walkStart = none →
      (p.walked d).lists[c.slot] = [] ∧ (p.walked d).pointer = p.walkStart) := by
  have hfixed : (p.fixedServed d)[c.slot] = [] := by
    have hkept : p.kept d c.slot = [] := List.sublist_nil.mp (hempty ▸ p.kept_sublist d c.slot)
    rw [hd.fixedServed_any hc hany, PauseBlock.advanced_get, hkept]
    rfl
  have hbefore : (p.walked d).lists.set c.slot [] = p.fixedServed d := by
    refine lists_ext fun i => ?_
    simp only [Fin.getElem_fin, Vector.getElem_set, ← Fin.ext_iff]
    split
    next h => subst h; exact hfixed.symm
    next h => exact (p.walked_served d).unclaimed fun x ⟨hx, hxany⟩ hslot => h (hone x hx hxany ▸ hslot)
  rw [hbefore, PauseBlock.walked, foldl_serveAny_one hd.slots_nodup.of_map hc hone]
  exact serveAny_single hany hcount hfixed _

/-- R132: of the FIXED claims that name one assignable unit and have none, the lowest is served with it, and it comes onto no
other list. -/
theorem DemandSet.Orderly.lowest_fixed (hc : c ∈ d.claims) (ht : c.target = .fixed u) (hempty : p.kept d c.slot = [])
    (hav : p.reported[u] = .available) (hfree : ¬p.keeps d u)
    (hlow : ∀ x ∈ d.claims, x.target = .fixed u → p.kept d x.slot = [] → c.slot ≤ x.slot) :
    (p.walked d).lists[c.slot] = [c.newEntry u] ∧ ∀ j, j ≠ c.slot → ∀ a ∈ (p.walked d).lists[j], a.unit ≠ u := by
  have hnone {x : PauseClaim} : (p.advanced d)[x.slot] = [] ↔ p.kept d x.slot = [] := by
    rw [PauseBlock.advanced_get, List.map_eq_nil_iff]
  have hu : assignable p.reported (p.advanced d) u = true :=
    assignable_iff.mpr ⟨hav, Bool.eq_false_of_not_eq_true (mt PauseBlock.advanced_assigned.mp hfree)⟩
  obtain ⟨hserved, hothers⟩ := foldl_serveFixed_lowest ht hd.slotOrder hd.fixedCount hc (hnone.mpr hempty) hu
    fun x hx hxt hxe => hlow x hx hxt (hnone.mp hxe)
  have hthere : assigned (p.fixedServed d) u = true :=
    assigned_iff.mpr ⟨c.slot, c.newEntry u, hserved ▸ List.mem_singleton_self _, rfl⟩
  refine ⟨(hd.walked_fixed hc (by rw [ht]; nofun)).trans hserved, fun j hj a ha hau => ?_⟩
  exact hothers j hj a ((p.walked_served d).mem_of_assigned hthere ha hau) hau

/-- R132: a FIXED claim is short only where its unit cannot be assigned. -/
theorem DemandSet.Orderly.short_fixed (hc : c ∈ d.claims) (ht : c.target = .fixed u)
    (hshort : (p.walked d).lists[c.slot].length < c.count) : assignable p.reported (p.walked d).lists u = false := by
  rw [hd.walked_fixed hc (by rw [ht]; nofun)] at hshort
  exact (p.walked_served d).not_assignable ((foldl_serveFixed_full ht hc _).resolve_left hshort.not_ge)

end block

/-- R133: an ANY claim is short only where no unit of the table can be assigned. -/
theorem PauseBlock.short_any {d : DemandSet} {p : PauseBlock} {c : PauseClaim} (hc : c ∈ d.claims) (hany : c.target = .any)
    (hshort : (p.walked d).lists[c.slot].length < c.count) {ph : PhaseId} {u : UnitId} (hu : p.walkTable[ph] = some u) :
    assignable p.reported (p.walked d).lists u = false := by
  have hfailed : (p.walked d).failed = true := (foldl_serveAny_full hany hc _).resolve_right hshort.not_ge
  have hnone := foldl_serveAny_failedRightly (av := p.reported) (live := p.walkTable) d.claims
    (x := ⟨p.fixedServed d, p.walkStart, false⟩) nofun hfailed
  exact walkFrom_eq_none.mp hnone ph u hu

/-- Settles O31: each part is what the services of the edge come to; the two laws of the walks hold of every service. -/
theorem claimsAreServedWhereTheyCanBe : Obligations.ClaimsAreServedWhereTheyCanBe := by
  refine ⟨fun k s hg => ?_, fun av live c n lists pointer => ⟨fun h => ?_, fun ph u h => serveWalks_some h⟩,
    fun av live lists pointer => ⟨fun ph u => ?_, ?_⟩⟩
  · have hd := s.edgeDemand_orderly k
    have hshort := s.afterEdge_shortAssign k
    obtain ⟨hlists, hpointer, hlive, hav, -⟩ := s.afterEdge_served k
    refine ⟨_, s.edgeDemand k, exec_afterEdge hg, s.afterEdge_demand k, fun h => (hshort.mp h).symm, ?_⟩
    rw [hlists] at hshort
    rw [hlists, hpointer, hlive, hav]
    refine ⟨hd.pointer_stays, fun ⟨c, hc, hany, a, ha, hnew⟩ => hd.pointer_moves hc hany ha hnew,
      fun c hc hany hone hcount hempty => hd.one_walk hc hany hone hcount hempty,
      fun c hc u ht hempty hu hfree hlow => hd.lowest_fixed hc ht hempty hu hfree hlow,
      ⟨_, hd.walks_eq s.pause⟩, fun c hc => ⟨hd.walked_length_le hc, fun hless =>
        ⟨hshort.mpr (.inl ⟨c, hc, hless⟩), fun u ht => assignable_eq_false.mp (hd.short_fixed hc ht hless),
          fun hany ph u hu => assignable_eq_false.mp (PauseBlock.short_any hc hany hless hu)⟩⟩⟩
  · exact ⟨serveWalks_none h, fun m => serveWalks_of_failed rfl⟩
  · rw [walkFrom_eq_some]
    simp only [assignable_iff, assignable_eq_false, and_assoc]
  · rw [walkFrom_eq_none]
    simp only [assignable_eq_false]

end Sys2Proof.Machine

/-! # Proofs of the sensor lines and station conditions

First the sample of one line: when it makes an edge or a level event, and what either leaves of the line. A sample or a
LINE_EVENT then leaves a state of one form (`State.sampledTo`), from which O41 reads each of its cases. Then the checks of the
four requests and their work (O43). -/

namespace Sys2Proof.Machine

/-! ## O41: samples, events and latches -/

/-! ### The filter at a sample that agrees with it (R146) -/

/-- A sample at the filtered level leaves that level, whatever the sample before. -/
theorem Filter.sample_level (f : Filter) : f.sample f.level = ⟨some f.level, f.level⟩ := by
  by_cases h : f.previous = some f.level
  · exact Filter.sample_of_agree h
  · exact Filter.sample_of_disagree h

theorem Filter.sample_of_kept {x : Bool} {f : Filter} (h : f.previous ≠ some x ∨ f.level = x) :
    f.sample x = ⟨some x, f.level⟩ := by
  rcases h with h | rfl
  · exact Filter.sample_of_disagree h
  · exact f.sample_level

theorem Filter.sample_before (x : Bool) : (Filter.before x).sample x = ⟨some x, x⟩ := Filter.sample_of_agree rfl

/-! ### The events of a line (R147) -/

section events
variable {x : Bool} {l : SensorLine}

/-- An edge event: the sample makes a transition, and the mode names it. -/
theorem SensorLine.edgeEvent_iff :
    l.edgeEvent x = true ↔
      l.enable = true ∧ l.filter.previous = some x ∧ l.filter.level ≠ x ∧ l.mode.edgeAt x := by
  unfold SensorLine.edgeEvent LineMode.edgeAt
  rw [Bool.and_eq_true]
  refine and_congr_right fun _ => ?_
  cases l.mode <;> cases x <;> simp [Filter.rises_iff, Filter.falls_iff, and_comm]

/-- A level event: the sample leaves the filter at the level of the mode. -/
theorem SensorLine.levelEvent_iff :
    l.levelEvent x = true ↔ l.enable = true ∧ l.mode.levelAt (l.filter.sample x).level :=
  SensorLine.matchesLevel_iff (l := { l with filter := l.filter.sample x })

theorem SensorLine.edgeEvent_of_kept (h : l.filter.previous ≠ some x ∨ l.filter.level = x) : l.edgeEvent x = false := by
  rw [← Bool.not_eq_true, SensorLine.edgeEvent_iff]
  rintro ⟨-, hprevious, hlevel, -⟩
  exact h.elim (· hprevious) hlevel

theorem SensorLine.sample_pending_iff :
    (l.sample x).pending = true ↔ l.pending = true ∨ l.edgeEvent x = true ∨ l.levelEvent x = true := by
  rw [SensorLine.sample, Bool.or_eq_true, Bool.or_eq_true, or_assoc]

/-- R148: an event sets the pending flag. -/
theorem SensorLine.sample_of_event (h : l.edgeEvent x = true ∨ l.levelEvent x = true) :
    l.sample x = { l with filter := l.filter.sample x, pending := true } := by
  rw [← SensorLine.sample_pending_iff.mpr (.inr h)]
  rfl

theorem SensorLine.sample_of_no_event (he : l.edgeEvent x = false) (hl : l.levelEvent x = false) :
    l.sample x = { l with filter := l.filter.sample x } := by
  rw [SensorLine.sample, he, hl, Bool.or_false, Bool.or_false]

/-- The line as it stands before the sample that makes the transition to `x`. -/
def SensorLine.beforeTransition (x : Bool) (l : SensorLine) : SensorLine := { l with filter := .before x }

/-- At a transition the mode alone decides whether an enabled line makes an edge event. -/
theorem SensorLine.beforeTransition_edgeEvent :
    (l.beforeTransition x).edgeEvent x = true ↔ l.enable = true ∧ l.mode.edgeAt x := by
  simp [SensorLine.edgeEvent_iff, SensorLine.beforeTransition, Filter.before]

theorem SensorLine.beforeTransition_levelEvent :
    (l.beforeTransition x).levelEvent x = true ↔ l.enable = true ∧ l.mode.levelAt x := by
  rw [SensorLine.levelEvent_iff, SensorLine.beforeTransition, Filter.sample_before]

theorem SensorLine.transition_of_event
    (h : (l.beforeTransition x).edgeEvent x = true ∨ (l.beforeTransition x).levelEvent x = true) :
    (l.beforeTransition x).sample x = { l with filter := ⟨some x, x⟩, pending := true } := by
  rw [SensorLine.sample_of_event h, ← Filter.sample_before]
  rfl

theorem SensorLine.transition_of_no_event (he : (l.beforeTransition x).edgeEvent x = false)
    (hl : (l.beforeTransition x).levelEvent x = false) :
    (l.beforeTransition x).sample x = { l with filter := ⟨some x, x⟩ } := by
  rw [SensorLine.sample_of_no_event he hl, ← Filter.sample_before]
  rfl

end events

/-! ### The state after a sample (R151, R180) -/

/-- Line `m` stands at `l`; its latch is queued where `latched` is true; ALERT is driven. -/
def State.sampledTo (m : LineId) (l : SensorLine) (latched : Bool) (s : State) : State :=
  State.driveAlert
    { s with sensors := s.sensors.set m l, latches := if latched then s.latches ++ [m] else s.latches }

section sampled
variable {m : LineId} {s : State}

theorem exec_sensorLineSample_sampledTo (x : Bool) (h0 : s.inReset = false) :
    exec (.sensorLineSample m x) s = .next (s.sampledTo m (s.sensors[m].sample x) (s.sensors[m].edgeEvent x)) := by
  rw [exec_sensorLineSample, outsideReset_act h0]
  rfl

/-- The sample that completes a transition, from whatever the filter held. -/
theorem State.sampleLine_beforeTransition (m : LineId) (x : Bool) (s : State) :
    (s.beforeTransition m x).sampleLine m x =
      s.sampledTo m ((s.sensors[m].beforeTransition x).sample x) ((s.sensors[m].beforeTransition x).edgeEvent x) := by
  have hline : (s.beforeTransition m x).sensors[m] = s.sensors[m].beforeTransition x := Vector.getElem_set_self _
  have hset (l : SensorLine) : (s.beforeTransition m x).sensors.set m l = s.sensors.set m l :=
    Vector.set_set _ _
  rw [State.sampleLine, hline, hset]
  rfl

/-- LINE_EVENT at a transition is the sample that completes it, whatever samples came before (notes/assumptions/12.md). -/
theorem exec_lineEvent_transition (x : Bool) (h0 : s.inReset = false) :
    exec (.lineEvent m (if x then .rise else .fall)) s =
      .next (s.sampledTo m ((s.sensors[m].beforeTransition x).sample x)
        ((s.sensors[m].beforeTransition x).edgeEvent x)) := by
  rw [exec_lineEvent, outsideReset_act h0, ← State.sampleLine_beforeTransition]
  cases x <;> rfl

/-- LINE_EVENT at a level is a sample at the filtered level, which makes no edge event. -/
theorem exec_lineEvent_level (h0 : s.inReset = false) :
    exec (.lineEvent m .level) s = .next (s.sampledTo m (s.sensors[m].sample s.sensors[m].filter.level) false) := by
  rw [← SensorLine.edgeEvent_of_kept (.inr rfl), ← exec_sensorLineSample_sampledTo _ h0]
  rfl

theorem State.sampledTo_line (l : SensorLine) (latched : Bool) (s : State) :
    (s.sampledTo m l latched).sensors[m] = l := by
  simp [State.sampledTo]

theorem State.sampledTo_other {j : LineId} (h : j ≠ m) (l : SensorLine) (latched : Bool) (s : State) :
    (s.sampledTo m l latched).sensors[j] = s.sensors[j] := by
  have hval : m.val ≠ j.val := fun e => h (Fin.ext e.symm)
  simp [State.sampledTo, hval]

/-- A transition that the mode of an enabled line names: pending, and a latch behind those that wait (R148, R151). -/
theorem exec_lineEvent_of_edge (x : Bool) (h0 : s.inReset = false) (hon : s.sensors[m].enable = true)
    (hmode : s.sensors[m].mode.edgeAt x) :
    exec (.lineEvent m (if x then .rise else .fall)) s =
      .next (s.sampledTo m { s.sensors[m] with filter := ⟨some x, x⟩, pending := true } true) := by
  have hedge := SensorLine.beforeTransition_edgeEvent.mpr ⟨hon, hmode⟩
  rw [exec_lineEvent_transition x h0, SensorLine.transition_of_event (.inl hedge), hedge]

end sampled

/-- Settles O41: the outcome of each command as `State.sampledTo`, with the line's events read off its mode. -/
theorem lineSamplesMakeEventsAndLatches : Obligations.LineSamplesMakeEventsAndLatches := by
  refine ⟨fun m x s h0 => ?_, fun m s h0 hon => ⟨fun hmode => ?_, fun hmode => ?_, fun hlevel => ?_⟩,
    fun m x s h0 hno => ?_, fun m s h0 hno => ?_⟩
  · refine ⟨_, _, exec_sensorLineSample_sampledTo x h0, rfl, rfl, rfl, fun j hj => State.sampledTo_other hj _ _ _, ?_⟩
    rw [State.sampledTo_line]
    refine ⟨fun hkept => ⟨Filter.sample_of_kept hkept, ?_⟩, fun hprevious hlevel =>
      ⟨Filter.sample_of_agree hprevious, ?_⟩, rfl, ?_⟩
    · rw [SensorLine.edgeEvent_of_kept hkept]
      rfl
    · refine if_congr ?_ rfl rfl
      simp only [SensorLine.edgeEvent_iff, hprevious, hlevel, LineMode.edgeAt, ne_eq, not_false_eq_true, true_and]
    · rw [SensorLine.sample_pending_iff, SensorLine.edgeEvent_iff, SensorLine.levelEvent_iff, ← and_or_left]
      simp only [SensorLine.sample, LineMode.edgeAt, LineMode.levelAt]
      tauto
  · exact ⟨_, exec_lineEvent_of_edge true h0 hon (hmode.symm.imp id fun h => .inl ⟨h, rfl⟩), rfl, rfl, rfl, rfl⟩
  · exact ⟨_, exec_lineEvent_of_edge false h0 hon (hmode.symm.imp id fun h => .inr ⟨h, rfl⟩), rfl, rfl, rfl, rfl⟩
  · have hevent : s.sensors[m].levelEvent s.sensors[m].filter.level = true := by
      rw [SensorLine.levelEvent_iff, Filter.sample_level]
      exact ⟨hon, hlevel⟩
    rw [exec_lineEvent_level h0, SensorLine.sample_of_event (.inr hevent), Filter.sample_level]
    exact ⟨_, rfl, rfl, rfl, rfl, rfl⟩
  · have hedge : (s.sensors[m].beforeTransition x).edgeEvent x = false := by
      rwa [← Bool.not_eq_true, SensorLine.beforeTransition_edgeEvent]
    rw [exec_lineEvent_transition x h0, hedge]
    refine ⟨_, rfl, rfl, fun hon hmode => ?_, fun hlevel => ?_, rfl, rfl⟩
    · rw [SensorLine.transition_of_event (.inr (SensorLine.beforeTransition_levelEvent.mpr ⟨hon, hmode⟩))]
      rfl
    · rw [← SensorLine.beforeTransition_levelEvent, Bool.not_eq_true] at hlevel
      rw [SensorLine.transition_of_no_event hedge hlevel]
      rfl
  · have hevent : s.sensors[m].levelEvent s.sensors[m].filter.level = false := by
      rwa [← Bool.not_eq_true, SensorLine.levelEvent_iff, Filter.sample_level]
    rw [exec_lineEvent_level h0, SensorLine.sample_of_no_event (SensorLine.edgeEvent_of_kept (.inr rfl)) hevent,
      Filter.sample_level]
    exact ⟨_, rfl, rfl, rfl, rfl, rfl⟩

end Sys2Proof.Machine

namespace Sys2Proof.Machine

/-! ## O43: the requests of the sensor block -/

/-! ### What the checks accept (R144, R149, R155, R156) -/

theorem index?_eq_none {n k : Nat} (h : n ≤ k) : index? n k = none := dif_neg (Nat.not_lt.mpr h)

/-- The lines named pass exactly as the numbers that the request carries them by. -/
theorem checkLines_eq_some {l : List Nat} {ms : List LineId} : checkLines l = some ms ↔ l = ms.map (·.val) := by
  induction l generalizing ms with
  | nil => cases ms <;> simp [checkLines]
  | cons n l ih =>
    have hindex {m : LineId} : index? 8 n = some m ↔ n = m.val :=
      ⟨fun h => (index?_eq_some h).symm, fun h => h ▸ index?_val m⟩
    cases hn : index? 8 n with
    | none => cases ms <;> simp [checkLines, hn, ← hindex]
    | some m => cases ms <;> simp [checkLines, hn, ih, ← hindex, and_comm]

theorem checkLines_of_named {l : List Nat} (h : ∀ n ∈ l, n ≤ 7) :
    ∃ ms : List LineId, l = ms.map (·.val) ∧ checkLines l = some ms := by
  lift l to List LineId using fun n hn => Nat.lt_succ_of_le (h n hn)
  exact ⟨l, rfl, checkLines_eq_some.mpr rfl⟩

theorem checkLines_badField {l : List Nat} (h : ∃ n ∈ l, 7 < n) : checkLines l = none := by
  obtain ⟨n, hn, hbad⟩ := h
  refine Option.eq_none_iff_forall_ne_some.mpr fun ms hms => ?_
  rw [checkLines_eq_some.mp hms] at hn
  obtain ⟨m, -, rfl⟩ := List.mem_map.mp hn
  omega

theorem checkCondition_given (c : Fin 7) : checkCondition (c.val + 1) = some c := by
  rw [checkCondition, if_neg c.val.succ_ne_zero, Nat.add_sub_cancel, index?_val]

theorem checkCondition_badField {n : Nat} (h : n = 0 ∨ 7 < n) : checkCondition n = none := by
  unfold checkCondition
  split
  next => rfl
  next h0 => exact index?_eq_none (by omega)

theorem checkSource_badField {x : RawSource}
    (h : x = .other ∨ (∃ inv, x = .host (some inv)) ∨ (∃ n, x = .line n none) ∨ ∃ n inv, 7 < n ∧ x = .line n inv) :
    checkSource x = none := by
  rcases h with rfl | ⟨inv, rfl⟩ | ⟨n, rfl⟩ | ⟨n, inv, hn, rfl⟩
  · rfl
  · rfl
  · rfl
  · cases inv with
    | none => rfl
    | some inv => rw [checkSource, index?_eq_none hn, Option.map_none]

theorem checkSource_line (m : LineId) (inv : Bool) : checkSource (.line m.val (some inv)) = some (.line m inv) := by
  rw [checkSource, index?_val, Option.map_some]

/-! ### What the requests do -/

section requests
variable {s : State}

theorem setLine_badField {f : LineFields}
    (h : 7 < f.line ∨ f.mode = none ∨ f.enable = none ∨ f.base = none ∨ 7 < f.prescale) :
    setLine f s = (s, .bare .badField) := by
  unfold setLine
  split
  next m mode on base n hline hmode hon hbase hprescale =>
    have hm := index?_eq_some hline
    have hn := index?_eq_some hprescale
    simp only [hmode, hon, hbase, reduceCtorEq, false_or] at h
    omega
  next => rfl

theorem setLine_given (m : LineId) (mode : LineMode) (on : Bool) (base : SampleBase) (n : Fin 8) :
    setLine ⟨m.val, some mode, some on, some base, n.val⟩ s =
      (State.driveAlert { s with sensors := s.sensors.set m (s.sensors[m].configure mode on base n) }, .bare .ok) := by
  simp only [setLine, index?_val]

/-- R144: the line after SET_LINE, item by item. -/
theorem SensorLine.configure_eq (mode : LineMode) (on : Bool) (base : SampleBase) (n : Fin 8) (l : SensorLine) :
    l.configure mode on base n =
      { mode := mode, enable := on, base := base, prescale := n
        filter :=
          { previous := if base = l.base ∧ n = l.prescale then l.filter.previous else none
            level := l.filter.level }
        pending := l.pending && decide (mode = l.mode) && decide (on = l.enable) } := by
  rw [SensorLine.configure, Bool.decide_and, ← Bool.and_assoc]
  split <;> rfl

theorem ackLines_badField {l : List Nat} (h : ∃ n ∈ l, 7 < n) : ackLines l s = (s, .bare .badField) := by
  simp only [ackLines, checkLines_badField h]

theorem ackLines_named {l : List Nat} (h : ∀ n ∈ l, n ≤ 7) :
    ackLines l s =
      (State.driveAlert
        { s with
          sensors := Vector.ofFn fun m : Fin 8 =>
            { s.sensors[m] with pending := s.sensors[m].pending && decide (m.val ∉ l) } },
        .bare .ok) := by
  obtain ⟨ms, rfl, hms⟩ := checkLines_of_named h
  have hline (m : LineId) (x : SensorLine) :
      (if m ∈ ms then { x with pending := false } else x) =
        { x with pending := x.pending && decide (m.val ∉ ms.map (·.val)) } := by
    have hmem : m.val ∈ ms.map (·.val) ↔ m ∈ ms := List.mem_map_of_injective Fin.val_injective
    by_cases hm : m ∈ ms <;> simp [hm, hmem]
  simp only [ackLines, hms, hline, mapTable]

theorem setCondition_badField {f : ConditionFields} (h : f.condition = 0 ∨ 7 < f.condition ∨ f.value = none) :
    setCondition f s = (s, .bare .badField) := by
  unfold setCondition
  split
  next c v hc hv =>
    rw [← or_assoc, hv] at h
    cases (checkCondition_badField (h.resolve_right nofun)).symm.trans hc
  next => rfl

theorem setConditionSource_badField {f : SourceFields}
    (h : checkCondition f.condition = none ∨ checkSource f.source = none) :
    setConditionSource f s = (s, .bare .badField) := by
  unfold setConditionSource
  split
  next c src hc hsrc => simp [hc, hsrc] at h
  next => rfl

theorem setConditionSource_given {f : SourceFields} {c : Fin 7} {src : CondSource} (hc : f.condition = c.val + 1)
    (hsrc : checkSource f.source = some src) :
    setConditionSource f s =
      ({ s with conditions := s.conditions.set c { s.conditions[c] with source := src } }, .bare .ok) := by
  simp only [setConditionSource, hc, checkCondition_given, hsrc]

end requests

/-- Settles O43: each request's work on the fields that its checks let pass, and its refusal of the others. -/
theorem sensorRequestsWriteWhatTheyName : Obligations.SensorRequestsWriteWhatTheyName := by
  refine ⟨fun iss f s hg => ⟨fun hbad => ?_, fun m mode on base n hf => ?_⟩, fun iss s =>
    ⟨fun l hg => ⟨fun hbad => ?_, fun hl => ?_⟩, fun f hg => ⟨fun hbad => ?_, fun c v hf => ?_⟩,
      fun f hg => ⟨fun hbad => ?_, fun c hc => ⟨fun hsrc => ?_, fun m inv hsrc => ?_⟩⟩⟩⟩
  · rw [exec_setLine, runRequest_granted hg, withFields_fields, setLine_badField hbad]
    rfl
  · subst hf
    rw [exec_setLine, runRequest_granted hg, withFields_fields, setLine_given, SensorLine.configure_eq]
    exact ⟨_, rfl, rfl⟩
  · rw [exec_ackLines, runRequest_granted hg, withFields_fields, ackLines_badField hbad]
    rfl
  · rw [exec_ackLines, runRequest_granted hg, withFields_fields, ackLines_named hl]
    exact ⟨_, rfl, rfl⟩
  · rw [exec_setCondition, runRequest_granted hg, withFields_fields, setCondition_badField hbad]
    rfl
  · subst hf
    rw [exec_setCondition, runRequest_granted hg, withFields_fields]
    simp only [setCondition, checkCondition_given]
    rfl
  · have hnone : checkCondition f.condition = none ∨ checkSource f.source = none := by
      rw [← or_assoc] at hbad
      exact hbad.imp checkCondition_badField checkSource_badField
    rw [exec_setConditionSource, runRequest_granted hg, withFields_fields, setConditionSource_badField hnone]
    rfl
  · rw [exec_setConditionSource, runRequest_granted hg, withFields_fields, setConditionSource_given hc (by rw [hsrc]; rfl)]
    rfl
  · rw [exec_setConditionSource, runRequest_granted hg, withFields_fields,
      setConditionSource_given hc (by rw [hsrc, checkSource_line])]
    rfl

end Sys2Proof.Machine

/-! # Proofs of record integrity

What `n` corrections make of a bank is `Bank.counted`; the banks and FIX_OVERFLOW after them follow by induction (O48). A counted
bank is in range, so all work that takes up what slots report keeps the range, by way of `Keeps` (O55). The requests of the cause
unit follow, each by what it makes of the causes that it names (O47). -/

namespace Sys2Proof.Machine

/-! ## O48: corrections are counted to their limit -/

/-- R168: the bank after `n` corrections. -/
def Bank.counted (n : Nat) (b : Bank) : Bank :=
  { count := min (b.count + n) 255, overflow := b.overflow || decide (255 < b.count + n) }

theorem Bank.counted_zero {b : Bank} (h : b.count ≤ 255) : b.counted 0 = b := by
  obtain ⟨count, overflow⟩ := b
  simp only [Bank.counted, Nat.add_zero, Nat.min_eq_left h, decide_eq_false (Nat.not_lt.mpr h), Bool.or_false]

theorem Bank.counted_one_of_room {b : Bank} (h : b.count < 255) : b.counted 1 = { b with count := b.count + 1 } := by
  simp only [Bank.counted, Nat.min_eq_left h, decide_eq_false (Nat.not_lt.mpr h), Bool.or_false]

theorem Bank.counted_one_of_full {b : Bank} (h : b.count = 255) : b.counted 1 = { b with overflow := true } := by
  simp [Bank.counted, h]

/-- Corrections pass the limit in one count exactly where they pass it in two, one after the other. -/
theorem Bank.passes_counted (b : Bank) (m n : Nat) :
    (decide (255 < b.count + m) || decide (255 < (b.counted m).count + n)) = decide (255 < b.count + (m + n)) := by
  rw [← Bool.decide_or, decide_eq_decide]
  show 255 < b.count + m ∨ 255 < min (b.count + m) 255 + n ↔ _
  omega

theorem Bank.counted_counted (b : Bank) (m n : Nat) : (b.counted m).counted n = b.counted (m + n) := by
  have hcount : min ((b.counted m).count + n) 255 = min (b.count + (m + n)) 255 := by
    show min (min (b.count + m) 255 + n) 255 = _
    omega
  have hoverflow : ((b.counted m).overflow || decide (255 < (b.counted m).count + n)) =
      (b.overflow || decide (255 < b.count + (m + n))) := by
    rw [← Bank.passes_counted b m n, ← Bool.or_assoc]
    rfl
  rw [Bank.counted, hcount, hoverflow]
  rfl

section corrections
variable {i : SlotId} {s : State}

theorem State.countFix_counted (h : s.banks[bankOf i].count ≤ 255) :
    (s.countFix i).banks = s.banks.set (bankOf i) (s.banks[bankOf i].counted 1) ∧
      (s.countFix i).hasCause .fixOverflow =
        (s.hasCause .fixOverflow || decide (255 < s.banks[bankOf i].count + 1)) := by
  unfold State.countFix
  dsimp only
  split
  case isTrue hless =>
    have hroom : s.banks[bankOf i].count < 255 := hless
    rw [Bank.counted_one_of_room hroom, decide_eq_false (Nat.not_lt.mpr hroom), Bool.or_false]
    exact ⟨rfl, rfl⟩
  case isFalse hfull =>
    have hcount : s.banks[bankOf i].count = 255 := Nat.le_antisymm h (Nat.le_of_not_lt hfull)
    rw [Bank.counted_one_of_full hcount, hcount, State.setCause_hasCause, State.setCause_banks]
    exact ⟨rfl, (Bool.or_true _).symm⟩

/-- R168: `n` corrections change their bank alone, and set FIX_OVERFLOW where they pass its limit. -/
theorem State.countFixes_counted (n : Nat) (h : s.banks[bankOf i].count ≤ 255) :
    (s.countFixes i n).banks = s.banks.set (bankOf i) (s.banks[bankOf i].counted n) ∧
      (s.countFixes i n).hasCause .fixOverflow =
        (s.hasCause .fixOverflow || decide (255 < s.banks[bankOf i].count + n)) := by
  induction n generalizing s with
  | zero =>
    rw [Bank.counted_zero h, Nat.add_zero, decide_eq_false (Nat.not_lt.mpr h), Bool.or_false]
    exact ⟨(Vector.set_getElem_self _).symm, rfl⟩
  | succ n ih =>
    obtain ⟨hbanks, hcause⟩ := State.countFix_counted h
    have hbank : (s.countFix i).banks[bankOf i] = s.banks[bankOf i].counted 1 := by
      rw [hbanks]
      exact Vector.getElem_set_self _
    obtain ⟨hbanks', hcause'⟩ := ih (s := s.countFix i) (hbank ▸ Nat.min_le_right _ _)
    rw [State.countFixes, hbanks', hcause', hbank, hbanks, hcause, Bank.counted_counted, Bool.or_assoc,
      Bank.passes_counted, Nat.add_comm 1 n]
    exact ⟨Vector.set_set .., rfl⟩

theorem State.countFixes_bank (n : Nat) (h : s.banks[bankOf i].count ≤ 255) (b : BankId) :
    (s.countFixes i n).banks[b] = if bankOf i = b then s.banks[bankOf i].counted n else s.banks[b] := by
  rw [(State.countFixes_counted n h).1]
  simp only [Fin.getElem_fin, Vector.getElem_set, Fin.ext_iff]

end corrections

/-- Settles O48: the corrected bank and FIX_OVERFLOW by the count, the rest by the frame of a correction. -/
theorem correctionsAreCountedToTheirLimit : Obligations.CorrectionsAreCountedToTheirLimit := by
  intro i n s hrange
  have hbank := State.countFixes_bank n (hrange (bankOf i))
  refine ⟨?_, fun b hb => ?_, (State.countFixes_counted n (hrange (bankOf i))).2,
    fun c hc => State.countFixes_hasCause hc i n s⟩
  · rw [hbank, if_pos rfl]
    rfl
  · rw [hbank, if_neg (Ne.symm hb)]

/-! ## O55: the bank counters stay in range -/

section banksInRange
variable {s t : State}

theorem State.banksInRange_congr (h : t.banks = s.banks) (hs : s.BanksInRange) : t.BanksInRange := by
  unfold State.BanksInRange
  rwa [h]

theorem State.banksInRange_cleared (h : t.banks = Vector.replicate 4 { count := 0, overflow := false }) :
    t.BanksInRange := by
  intro b
  rw [h, Fin.getElem_fin, Vector.getElem_replicate]
  exact Nat.zero_le _

theorem State.banksInRange_countFixes (i : SlotId) (n : Nat) (hs : s.BanksInRange) : (s.countFixes i n).BanksInRange := by
  intro b
  rw [State.countFixes_bank n (hs (bankOf i))]
  split
  · exact Nat.min_le_right _ _
  · exact hs b

theorem State.banksInRange_noteEffect (i : SlotId) (e : SlotEffect) (hs : s.BanksInRange) :
    (s.noteEffect i e).BanksInRange := by
  obtain ⟨hbanks, -⟩ := State.noteEffect_countsAs (State.countsAs_of_eq (s := s) rfl rfl) i e
  exact State.banksInRange_congr hbanks (State.banksInRange_countFixes i e.fixes hs)

theorem State.banksInRange_applyEffect (i : SlotId) (e : SlotEffect) (hs : s.BanksInRange) :
    (s.applyEffect i e).BanksInRange :=
  State.banksInRange_noteEffect i e (s := { s with slots := s.slots.set i e.slot }) hs

theorem State.banksInRange_foldEffects (es : SlotId → SlotEffect) (l : List SlotId) (hs : s.BanksInRange) :
    (l.foldl (fun acc i => acc.noteEffect i (es i)) s).BanksInRange := by
  induction l generalizing s with
  | nil => exact hs
  | cons i l ih => exact ih (State.banksInRange_noteEffect i (es i) hs)

theorem State.banksInRange_latchTable (m : LineId) (hs : s.BanksInRange) : (s.latchTable m).BanksInRange := by
  unfold State.latchTable
  refine State.banksInRange_foldEffects _ _ ?_
  exact State.banksInRange_congr (s := s) rfl hs

/-- Of an edge's work, the pass over the slots alone reads bodies (R80). -/
theorem State.banksInRange_edgeWork (k : EdgeKind) (hs : s.BanksInRange) : (s.edgeWork k).BanksInRange := by
  have hpass : ((s.openEdge k).passEdge k).BanksInRange := by
    unfold State.passEdge State.walk
    refine State.banksInRange_foldEffects _ _ ?_
    exact State.banksInRange_congr (s := s) rfl hs
  exact State.banksInRange_congr (by simp [State.edgeWork]) hpass

theorem State.banksInRange_takeLatch (m : LineId) (hs : s.BanksInRange) : (s.takeLatch m).BanksInRange := by
  unfold State.takeLatch
  split
  · exact hs
  · split
    · exact State.banksInRange_congr (by simp) (State.banksInRange_latchTable m hs)
    · exact hs

end banksInRange

/-- The banks change where bodies are read, through `State.applyEffect` and the walks, and where they are cleared. -/
theorem keeps_banksInRange : Keeps State.BanksInRange where
  queue _ _ _ _ := State.banksInRange_congr (by simp)
  hold _ _ _ := State.banksInRange_congr (by simp)
  answer _ _ _ := State.banksInRange_congr (by simp)
  openWindow _ _ _ _ _ := State.banksInRange_congr (by simp)
  amendWindow iss f s _ _ hs := by
    rcases amendWindow_cases iss f s with h | ⟨h, r, a, -, -, -, ⟨-, h⟩ | ⟨-, h⟩⟩ <;> rw [h]
    · exact hs
    · exact State.banksInRange_applyEffect _ _ hs
    · exact State.banksInRange_applyEffect _ _ hs
  retireWindow iss raw s _ _ hs := by
    rcases retireWindow_cases iss raw s with h | ⟨h, r, -, h | h⟩ <;> rw [h]
    · exact hs
    · exact State.banksInRange_applyEffect _ _ hs
    · exact State.banksInRange_applyEffect _ _ hs
  purge _ _ _ _ := State.banksInRange_congr (by simp)
  readWindow raw s _ _ hs := by
    rcases readWindow_cases raw s with h | ⟨h, r, -, h⟩ <;> rw [h]
    · exact hs
    · exact State.banksInRange_applyEffect _ _ hs
  reportInflow _ _ _ _ := State.banksInRange_congr (by simp)
  reportUnits _ _ _ _ := State.banksInRange_congr (by simp)
  setBinding _ _ _ _ := State.banksInRange_congr (by simp)
  setSettings _ _ _ _ := State.banksInRange_congr (by simp)
  loadRotation _ _ _ _ := State.banksInRange_congr (by simp)
  setLine _ _ _ _ := State.banksInRange_congr (by simp)
  ackLines _ _ _ _ := State.banksInRange_congr (by simp)
  setCondition _ _ _ _ := State.banksInRange_congr (by simp)
  setConditionSource _ _ _ _ := State.banksInRange_congr (by simp)
  start _ _ _ _ := State.banksInRange_congr (by simp)
  stop _ _ _ _ := State.banksInRange_congr (by simp)
  setHostHold _ _ _ _ _ := State.banksInRange_congr (by simp)
  ackCauses _ _ _ _ := State.banksInRange_congr (by simp)
  setAlertMask _ _ _ _ := State.banksInRange_congr (by simp)
  clearTracking _ _ _ _ _ := State.banksInRange_cleared rfl
  frameEnd _ _ _ _ := State.banksInRange_congr (by simp)
  timed _ _ _ _ := State.banksInRange_congr (by simp)
  lostMark _ _ _ _ := State.banksInRange_congr (by simp)
  markBefore _ := State.banksInRange_congr (by simp)
  lineBefore _ _ _ := State.banksInRange_congr (by simp)
  markSample _ _ _ _ := State.banksInRange_congr (by simp)
  holdSample _ _ _ := State.banksInRange_congr (by simp)
  edge k _ _ _ hs := State.banksInRange_congr (by simp) (State.banksInRange_edgeWork k hs)
  frameDone _ _ _ := State.banksInRange_congr (by simp)
  lineSample _ _ _ _ := State.banksInRange_congr (by simp)
  latch m _ _ := State.banksInRange_takeLatch m
  scrubDue _ _ := State.banksInRange_congr (by simp)
  scrub s _ _ hs := by
    have hnow := State.banksInRange_congr s.scrubNow_countsAs.1 (State.banksInRange_countFixes _ _ hs)
    exact State.banksInRange_congr (by simp) hnow
  free _ _ := State.banksInRange_congr rfl
  toReset _ _ := State.banksInRange_cleared rfl
  fromReset _ _ _ := State.banksInRange_cleared rfl
  pending _ _ := State.banksInRange_congr rfl

/-- Settles O55: every piece of work keeps the counters within their limit. -/
theorem bankCountersStayInRange : Obligations.BankCountersStayInRange :=
  fun _ _ hs h => keeps_banksInRange.step hs h

/-! ## O47: the requests of the cause unit -/

/-! ### What the requests name -/

/-- A set whose every entry names a cause is the set of the causes it names. -/
theorem exists_named {α : Type} {l : List (Option α)} (h : none ∉ l) : ∃ l' : List α, l = l'.map some := by
  cases hl : allNamed l with
  | none => exact absurd (allNamed_eq_none.mp hl) h
  | some l' => exact ⟨l', allNamed_eq_some.mp hl⟩

theorem allNamed_map_some {α : Type} (l : List α) : allNamed (l.map some) = some l := allNamed_eq_some.mpr rfl

theorem namesSticky_stickyIndex (cs : List Cause) (c : Sticky) :
    namesSticky cs (stickyIndex c) = decide (Cause.sticky c ∈ cs) := by
  rw [Bool.eq_iff_iff, decide_eq_true_iff, namesSticky, List.any_eq_true]
  constructor
  · rintro ⟨x, hx, hc⟩
    cases x with
    | sticky y => rwa [← stickyIndex_inj (of_decide_eq_true hc)]
    | linePending => cases hc
    | recordQuarantined => cases hc
  · exact fun h => ⟨_, h, decide_eq_true rfl⟩

theorem State.anyQuarantined_iff (s : State) :
    s.anyQuarantined = true ↔ ∃ i r, s.recordAt i = some r ∧ r.life = .quarantined := by
  have hstate (sl : Slot) : sl.state = .quarantined ↔ ∃ r, sl.record = some r ∧ r.life = .quarantined := by
    rw [show SlotState.quarantined = Life.quarantined.toSlotState from rfl, Slot.state_life_iff, Option.map_eq_some_iff]
  simp only [State.anyQuarantined, List.any_eq_true, decide_eq_true_eq, hstate, Vector.mem_toList_iff, State.recordAt]
  constructor
  · rintro ⟨sl, hsl, hr⟩
    obtain ⟨i, hi, rfl⟩ := Vector.getElem_of_mem hsl
    exact ⟨⟨i, hi⟩, hr⟩
  · exact fun ⟨i, hr⟩ => ⟨_, Vector.getElem_mem i.isLt, hr⟩

/-! ### What the requests do -/

section requests
variable {s : State}

theorem State.alertAgrees_answer_driveAlert (r : Response) (s : State) : (s.driveAlert.answer r).AlertAgrees :=
  State.alertAgrees_congr (by simp) (by simp) s.alertAgrees_driveAlert

theorem ackCauses_badField {l : List (Option Cause)} (h : none ∈ l) : ackCauses l s = (s, .bare .badField) := by
  rw [ackCauses, allNamed_eq_none.mpr h]

theorem ackCauses_named (cs : List Cause) :
    ackCauses (cs.map some) s =
      (State.driveAlert { s with causes := s.causes.ack cs s.anyQuarantined },
        { status := .ok,
          body := .causeSet (s.causes.ack cs s.anyQuarantined).sticky
            (s.causes.ack cs s.anyQuarantined).recordQuarantined s.linePending }) := by
  rw [ackCauses, allNamed_map_some]
  rfl

theorem CauseUnit.ack_sticky (cs : List Cause) (locked : Bool) (u : CauseUnit) (c : Sticky) :
    (u.ack cs locked).sticky[stickyIndex c] = (u.sticky[stickyIndex c] && decide (Cause.sticky c ∉ cs)) := by
  rw [CauseUnit.ack, mapTable_get, namesSticky_stickyIndex, decide_not]

theorem CauseUnit.ack_recordQuarantined (cs : List Cause) (locked : Bool) (u : CauseUnit) :
    (u.ack cs locked).recordQuarantined = true ↔
      u.recordQuarantined = true ∧ (Cause.recordQuarantined ∉ cs ∨ locked = true) := by
  simp [CauseUnit.ack, or_comm]

theorem setAlertMask_badField {l : List (Option Cause)} (h : none ∈ l ∨ some .recordQuarantined ∈ l) :
    setAlertMask l s = (s, .bare .badField) := by
  unfold setAlertMask
  split
  case h_1 => rfl
  case h_2 cs hcs =>
    rw [← allNamed_eq_none, hcs, allNamed_eq_some.mp hcs, List.mem_map_of_injective (Option.some_injective _)] at h
    exact if_pos (h.resolve_left nofun)

theorem setAlertMask_named {cs : List Cause} (h : Cause.recordQuarantined ∉ cs) :
    setAlertMask (cs.map some) s = (State.driveAlert { s with causes := s.causes.setMask cs }, .bare .ok) := by
  rw [setAlertMask, allNamed_map_some]
  exact if_neg h

theorem CauseUnit.setMask_enable (cs : List Cause) (u : CauseUnit) (c : Sticky) :
    (u.setMask cs).enable[stickyIndex c] = decide (Cause.sticky c ∈ cs) := by
  rw [← namesSticky_stickyIndex]
  exact Vector.getElem_ofFn _

end requests

/-- Settles O47: each request's work on the set that it names, and its refusal of the others. -/
theorem causeRequestsClearAndMask : Obligations.CauseRequestsClearAndMask := by
  refine fun iss s => ⟨fun l hg => ⟨fun hbad => ?_, fun hl => ?_⟩, fun l hg => ⟨fun hbad => ?_, fun hl hrq => ?_⟩,
    fun hg => ?_⟩
  · rw [exec_ackCauses, runRequest_granted hg, withFields_fields, ackCauses_badField hbad]
    rfl
  · obtain ⟨cs, rfl⟩ := exists_named hl
    rw [exec_ackCauses, runRequest_granted hg, withFields_fields, ackCauses_named]
    simp only [List.mem_map_of_injective (Option.some_injective _), ← State.anyQuarantined_iff]
    refine ⟨_, rfl, rfl, rfl, CauseUnit.ack_sticky cs s.anyQuarantined _,
      CauseUnit.ack_recordQuarantined cs s.anyQuarantined _, fun t ht => ?_⟩
    rw [← Host.Outcome.next.inj ht]
    exact State.alertAgrees_answer_driveAlert _ _
  · rw [exec_setAlertMask, runRequest_granted hg, withFields_fields, setAlertMask_badField hbad]
    rfl
  · obtain ⟨cs, rfl⟩ := exists_named hl
    rw [List.mem_map_of_injective (Option.some_injective _)] at hrq
    rw [exec_setAlertMask, runRequest_granted hg, withFields_fields, setAlertMask_named hrq]
    simp only [List.mem_map_of_injective (Option.some_injective _)]
    refine ⟨_, rfl, rfl, rfl, CauseUnit.setMask_enable cs s.causes, rfl, fun t ht => ?_⟩
    rw [← Host.Outcome.next.inj ht]
    exact State.alertAgrees_answer_driveAlert _ _
  · rw [exec_clearTracking, runRequest_granted hg, withFields_fields]
    rfl

end Sys2Proof.Machine

/-! # Proofs of the ALERT line and of reset

ALERT is driven by all work that changes a cause, an enable or a line's pending flag, and depends on nothing else, so every
piece of work leaves it in agreement (O52), by way of `Keeps`. In reset every command but the two of R192 is ignored: it is a
request, which is not taken, or an event outside reset (O51). -/

namespace Sys2Proof.Machine

/-! ## O52: ALERT agrees with the causes -/

/-- R153: LINE_PENDING by the lines. -/
theorem State.linePending_iff (s : State) :
    s.linePending = true ↔ ∃ m : LineId, s.sensors[m].enable = true ∧ s.sensors[m].pending = true := by
  simp only [State.linePending, List.any_eq_true, Bool.and_eq_true, Vector.mem_toList_iff]
  constructor
  · rintro ⟨l, hl, h⟩
    obtain ⟨m, hm, rfl⟩ := Vector.getElem_of_mem hl
    exact ⟨⟨m, hm⟩, h⟩
  · exact fun ⟨m, h⟩ => ⟨_, Vector.getElem_mem m.isLt, h⟩

section alertAgrees
variable {s t : State}

theorem State.linePending_congr
    (h : ∀ m : LineId, t.sensors[m].enable = s.sensors[m].enable ∧ t.sensors[m].pending = s.sensors[m].pending) :
    t.linePending = s.linePending := by
  rw [Bool.eq_iff_iff, State.linePending_iff, State.linePending_iff]
  exact exists_congr fun m => by rw [(h m).1, (h m).2]

/-- The samples before a transition move a filter alone (R146). -/
theorem State.beforeTransition_linePending (m : LineId) (x : Bool) (s : State) :
    (s.beforeTransition m x).linePending = s.linePending := by
  refine State.linePending_congr fun j => ?_
  simp only [State.beforeTransition, Fin.getElem_fin, Vector.getElem_set]
  split
  case isTrue hj => simp only [hj, and_self]
  case isFalse => exact ⟨rfl, rfl⟩

/-- Of the sensor block ALERT looks at LINE_PENDING alone. -/
theorem State.alertAgrees_of_linePending (hc : t.causes = s.causes) (hl : t.linePending = s.linePending)
    (hs : s.AlertAgrees) : t.AlertAgrees := by
  rw [State.alertAgrees_iff] at *
  rwa [State.alertLevel, hc, hl]

theorem amendWindow_alertAgrees (iss : Issuer) (f : AmendFields) (hs : s.AlertAgrees) :
    (amendWindow iss f s).1.AlertAgrees := by
  rcases amendWindow_cases iss f s with h | ⟨_, _, _, -, -, -, ⟨-, h⟩ | ⟨-, h⟩⟩ <;> rw [h]
  · exact hs
  · exact State.alertAgrees_driveAlert _
  · exact State.alertAgrees_driveAlert _

/-- RETIRE_WINDOW reads no body, so it reports no cause. -/
theorem retireWindow_alertAgrees (iss : Issuer) (raw : RawHandle) (hs : s.AlertAgrees) :
    (retireWindow iss raw s).1.AlertAgrees := by
  rcases retireWindow_cases iss raw s with h | ⟨_, _, -, h | h⟩ <;> rw [h]
  · exact hs
  · exact State.alertAgrees_congr (by rw [State.applyEffect_quiet]) (by simp) hs
  · exact State.alertAgrees_congr (by rw [State.applyEffect_quiet]) (by simp) hs

theorem readWindow_alertAgrees (raw : RawHandle) (hs : s.AlertAgrees) : (readWindow raw s).1.AlertAgrees := by
  rcases readWindow_cases raw s with h | ⟨_, _, -, h⟩ <;> rw [h]
  · exact hs
  · exact State.alertAgrees_driveAlert _

theorem setLine_alertAgrees (f : LineFields) (hs : s.AlertAgrees) : (setLine f s).1.AlertAgrees := by
  unfold setLine
  split
  · exact State.alertAgrees_driveAlert _
  · exact hs

theorem ackLines_alertAgrees (l : List Nat) (hs : s.AlertAgrees) : (ackLines l s).1.AlertAgrees := by
  unfold ackLines
  split
  · exact hs
  · exact State.alertAgrees_driveAlert _

theorem ackCauses_alertAgrees (l : List (Option Cause)) (hs : s.AlertAgrees) : (ackCauses l s).1.AlertAgrees := by
  unfold ackCauses
  split
  · exact hs
  · exact State.alertAgrees_driveAlert _

theorem setAlertMask_alertAgrees (l : List (Option Cause)) (hs : s.AlertAgrees) : (setAlertMask l s).1.AlertAgrees := by
  unfold setAlertMask
  split
  · exact hs
  · split
    · exact hs
    · exact State.alertAgrees_driveAlert _

/-- A mark sets a cause where it is early, and raises an edge or is discarded elsewhere (R65, R67, R70). -/
theorem State.takeMark_alertAgrees (n : Nat) (hs : s.AlertAgrees) : (s.takeMark n).AlertAgrees := by
  unfold State.takeMark
  split
  · exact State.alertAgrees_congr (by simp) (by simp) hs
  · split
    · exact State.alertAgrees_driveAlert _
    · exact State.alertAgrees_congr (by simp) (by simp) hs
  · exact hs

theorem State.sampleMark_alertAgrees (x : Bool) (n : Nat) (hs : s.AlertAgrees) : (s.sampleMark x n).AlertAgrees := by
  cases hrise : s.time.markFilter.rises x with
  | true =>
    rw [State.sampleMark_of_rise hrise]
    exact State.takeMark_alertAgrees n (State.alertAgrees_congr rfl rfl hs)
  | false =>
    rw [State.sampleMark_of_no_rise hrise]
    exact State.alertAgrees_congr rfl rfl hs

theorem State.takeLatch_alertAgrees (m : LineId) (hs : s.AlertAgrees) : (s.takeLatch m).AlertAgrees := by
  unfold State.takeLatch
  split
  · exact hs
  · split
    · exact State.alertAgrees_congr (by simp) (by simp) (s.latchTable m).alertAgrees_driveAlert
    · exact hs

theorem State.heldInReset_alertAgrees (s : State) : s.heldInReset.AlertAgrees :=
  State.alertAgrees_congr (s := State.reset.heldInReset) rfl rfl ((State.alertAgrees_iff _).mpr (by decide))

theorem State.leftReset_alertAgrees (s : State) : s.leftReset.AlertAgrees :=
  State.alertAgrees_congr (s := State.reset) rfl rfl ((State.alertAgrees_iff _).mpr (by decide))

end alertAgrees

/-- Work that changes a cause, an enable or a line's pending flag drives ALERT; all other work leaves the three, and ALERT,
as they stood. -/
theorem keeps_alertAgrees : Keeps State.AlertAgrees where
  queue _ _ _ _ := State.alertAgrees_congr (by simp) (by simp)
  hold _ _ _ := State.alertAgrees_congr (by simp) (by simp)
  answer _ _ _ := State.alertAgrees_congr (by simp) (by simp)
  openWindow _ _ _ _ _ := State.alertAgrees_congr (by simp) (by simp)
  amendWindow iss f _ _ _ := amendWindow_alertAgrees iss f
  retireWindow iss raw _ _ _ := retireWindow_alertAgrees iss raw
  purge _ _ _ _ := State.alertAgrees_congr (by simp) (by simp)
  readWindow raw _ _ _ := readWindow_alertAgrees raw
  reportInflow _ _ _ _ := State.alertAgrees_congr (by simp) (by simp)
  reportUnits _ _ _ _ := State.alertAgrees_congr (by simp) (by simp)
  setBinding _ _ _ _ := State.alertAgrees_congr (by simp) (by simp)
  setSettings _ _ _ _ := State.alertAgrees_congr (by simp) (by simp)
  loadRotation _ _ _ _ := State.alertAgrees_congr (by simp) (by simp)
  setLine f _ _ _ := setLine_alertAgrees f
  ackLines l _ _ _ := ackLines_alertAgrees l
  setCondition _ _ _ _ := State.alertAgrees_congr (by simp) (by simp)
  setConditionSource _ _ _ _ := State.alertAgrees_congr (by simp) (by simp)
  start _ _ _ _ := State.alertAgrees_congr (by simp) (by simp)
  stop _ _ _ _ := State.alertAgrees_congr (by simp) (by simp)
  setHostHold _ _ _ _ _ := State.alertAgrees_congr (by simp) (by simp)
  ackCauses l _ _ _ := ackCauses_alertAgrees l
  setAlertMask l _ _ _ := setAlertMask_alertAgrees l
  clearTracking _ _ _ _ := State.alertAgrees_congr (by simp) (by simp)
  frameEnd _ _ _ _ := State.alertAgrees_congr (by simp) (by simp)
  timed _ _ _ _ := State.alertAgrees_congr (by simp) (by simp)
  lostMark _ _ _ _ _ := State.alertAgrees_driveAlert _
  markBefore _ := State.alertAgrees_congr (by simp) (by simp)
  lineBefore m x s := State.alertAgrees_of_linePending (by simp) (s.beforeTransition_linePending m x)
  markSample x n _ _ := State.sampleMark_alertAgrees x n
  holdSample _ _ _ := State.alertAgrees_congr (by simp) (by simp)
  edge k s _ _ _ := State.alertAgrees_congr (s := s.edgeWork k) (by simp) (by simp) (State.alertAgrees_driveAlert _)
  frameDone _ _ _ := State.alertAgrees_congr (by simp) (by simp)
  lineSample _ _ _ _ _ := State.alertAgrees_driveAlert _
  latch m _ _ := State.takeLatch_alertAgrees m
  scrubDue _ _ := State.alertAgrees_congr (by simp) (by simp)
  scrub s _ _ _ := State.alertAgrees_congr (s := s.scrubNow) (by simp) (by simp) (State.alertAgrees_driveAlert _)
  free _ _ := State.alertAgrees_congr rfl rfl
  toReset s _ := s.heldInReset_alertAgrees
  fromReset s _ _ := s.leftReset_alertAgrees
  pending _ _ := State.alertAgrees_congr rfl rfl

/-- Settles O52: every piece of work keeps the agreement. -/
theorem alertAgreementIsKept : Obligations.AlertAgreementIsKept := fun _ _ hs h => keeps_alertAgrees.step hs h

end Sys2Proof.Machine

namespace Sys2Proof.Machine

/-! ## O51: reset -/

/-! ### FULL_RESET by its cause (R192) -/

theorem exec_fullReset (c : ResetCause) (s : State) :
    exec (.fullReset c) s =
      .next (if resets (Config.shortPulseResets s.freeIndex) c then
          State.heldInReset (if takesFree c then { s with freeIndex := s.freeIndex + 1 } else s)
        else if takesFree c then { s with freeIndex := s.freeIndex + 1 } else s) := rfl

theorem takesFree_resetLow (ns : Nat) : takesFree (.resetLow ns) = decide (1000 ≤ ns ∧ ns < 10000) :=
  (Bool.decide_and ..).symm

theorem resets_resetLow (free : Bool) (ns : Nat) :
    resets free (.resetLow ns) = if ns < 1000 then false else if ns < 10000 then free else true := rfl

section fullReset
variable {ns : Nat} {s : State}

/-- Power-on, and a pulse of 10 microseconds or more, reset whatever the free value. -/
theorem exec_fullReset_certain {c : ResetCause} (h : c = .powerOn ∨ ∃ ns, 10000 ≤ ns ∧ c = .resetLow ns) :
    exec (.fullReset c) s = .next s.heldInReset := by
  rcases h with rfl | ⟨ns, hns, rfl⟩
  · rfl
  · have hlow : ¬ns < 1000 := by omega
    have hhigh : ¬ns < 10000 := Nat.not_lt.mpr hns
    simp [exec_fullReset, takesFree_resetLow, resets_resetLow, hlow, hhigh]

/-- A pulse of 1 to 10 microseconds takes a free value, which decides. -/
theorem exec_fullReset_free (hlow : 1000 ≤ ns) (hhigh : ns < 10000) :
    exec (.fullReset (.resetLow ns)) s =
      .next (if Config.shortPulseResets s.freeIndex then State.heldInReset { s with freeIndex := s.freeIndex + 1 }
        else { s with freeIndex := s.freeIndex + 1 }) := by
  simp [exec_fullReset, takesFree_resetLow, resets_resetLow, hlow, hhigh, Nat.not_lt.mpr hlow]

theorem exec_fullReset_ignored (h : ns < 1000) : exec (.fullReset (.resetLow ns)) s = .next s := by
  simp [exec_fullReset, takesFree_resetLow, resets_resetLow, h, Nat.not_le.mpr h]

end fullReset

/-! ### LEAVE_RESET, and the commands that reset holds off (R192) -/

theorem exec_leaveReset (s : State) : exec .leaveReset s = .next (if s.inReset then s.leftReset else s) := rfl

/-- A command that is neither a request nor one of the two of R192 is an event of the part out of reset. -/
theorem exec_event {i : Instr} (hi : ¬isRequest i) (hleave : i ≠ .leaveReset) (hfull : ∀ c, i ≠ .fullReset c) :
    ∃ act, ∀ s, exec i s = outsideReset s act := by
  cases i
  case requestFrameEnd bytes complete => exact ⟨_, exec_requestFrameEnd bytes complete⟩
  case intervalTimerExpiry => exact ⟨_, exec_intervalTimerExpiry⟩
  case mark n => exact ⟨_, exec_mark n⟩
  case lostMarkLimitExpiry => exact ⟨_, exec_lostMarkLimitExpiry⟩
  case holdLineChange x => exact ⟨_, exec_holdLineChange x⟩
  case edgeClaimGrant => exact ⟨_, exec_edgeClaimGrant⟩
  case frameTransmitDone => exact ⟨_, exec_frameTransmitDone⟩
  case lineEvent m e => exact ⟨_, exec_lineEvent m e⟩
  case triggerLatch m => exact ⟨_, exec_triggerLatch m⟩
  case scrubStepDue => exact ⟨_, exec_scrubStepDue⟩
  case scrubStep => exact ⟨_, exec_scrubStep⟩
  case sensorLineSample m x => exact ⟨_, exec_sensorLineSample m x⟩
  case markSample x n => exact ⟨_, exec_markSample x n⟩
  case fullReset c => exact absurd rfl (hfull c)
  case leaveReset => exact absurd rfl hleave
  all_goals exact (hi rfl).elim

/-- In reset a request is not taken and an event of the part does not act. -/
theorem exec_of_inReset {i : Instr} {s : State} (h : s.inReset = true) (hleave : i ≠ .leaveReset)
    (hfull : ∀ c, i ≠ .fullReset c) : exec i s = .next s := by
  by_cases hi : isRequest i
  · obtain ⟨work, hwork⟩ := exec_request hi
    rw [hwork, runRequest_unchanged (.inl (if_pos h))]
  · obtain ⟨act, hact⟩ := exec_event hi hleave hfull
    rw [hact, outsideReset, if_pos h]

/-- Settles O51: the pulse by its length, and every other command by whether the part is in reset. -/
theorem resetHoldsAndReleasesThePart : Obligations.ResetHoldsAndReleasesThePart := by
  refine fun s => ⟨fun c held hc hheld => ?_, fun ns => exec_fullReset_ignored, fun h => ?_, fun h => ?_,
    fun i => exec_of_inReset⟩
  · subst hheld
    refine ⟨exec_fullReset_certain hc, fun ns hlow hhigh => ?_⟩
    rw [exec_fullReset_free hlow hhigh]
    cases Config.shortPulseResets s.freeIndex with
    | false => exact .inl rfl
    | true => exact .inr rfl
  · rw [exec_leaveReset, if_pos h]
    rfl
  · rw [exec_leaveReset, if_neg (Bool.eq_false_iff.mp h)]

end Sys2Proof.Machine

namespace Sys2Proof.Machine

/-! ## O5: the request frame -/

/-! ### The layout of a request frame (12.5) -/

theorem rawFrame_eq (code issuer : Byte) (body : List Byte) :
    rawFrame code issuer body =
      BitVec.ofNat 8 (body.length + 2) :: code :: issuer ::
        (body ++ bytes16 (crc16 (BitVec.ofNat 8 (body.length + 2) :: code :: issuer :: body))) := rfl

/-- The length byte counts the code, the issuer and the body. -/
theorem lengthByte_toNat {body : List Byte} (hb : body.length ≤ 100) :
    (BitVec.ofNat 8 (body.length + 2)).toNat = body.length + 2 := by
  rw [BitVec.toNat_ofNat]
  omega

theorem issuerOfByte_issuerByte (iss : Issuer) : issuerOfByte (issuerByte iss) = some iss := by
  cases iss <;> rfl

theorem issuerOfByte_eq_none {b : Byte} (h : 2 < b.toNat) : issuerOfByte b = none := by
  have h0 : b ≠ 0 := fun he => by subst he; exact absurd h (by decide)
  have h1 : b ≠ 1 := fun he => by subst he; exact absurd h (by decide)
  have h2 : b ≠ 2 := fun he => by subst he; exact absurd h (by decide)
  rw [issuerOfByte, if_neg h0, if_neg h1, if_neg h2]

/-! ### The six checks of a frame (R183) -/

/-- Checks 1 to 4, the bytes from the length byte on. -/
theorem frameIntact_cons {b : Byte} {rest : List Byte} {ok : Bool} :
    frameIntact (b :: rest) ok = true ↔
      ok = true ∧ (2 ≤ b.toNat ∧ b.toNat ≤ 102) ∧ (b :: rest).length = b.toNat + 3 ∧
        (b :: rest).drop (b.toNat + 1) = bytes16 (crc16 ((b :: rest).take (b.toNat + 1))) := by
  simp only [frameIntact, Bool.and_eq_true, decide_eq_true_eq, and_assoc]

/-- A frame that keeps the layout is intact: its CRC is that of the bytes before it. -/
theorem frameIntact_rawFrame (code issuer : Byte) {body : List Byte} (hb : body.length ≤ 100) :
    frameIntact (rawFrame code issuer body) true = true := by
  rw [rawFrame_eq, frameIntact_cons, lengthByte_toNat hb]
  refine ⟨rfl, ⟨by omega, by omega⟩, by simp, ?_⟩
  simp only [List.drop_succ_cons, List.take_succ_cons, List.drop_left, List.take_left]

/-- One of checks 1 to 4 fails. -/
theorem not_frameIntact_cons {b : Byte} {rest : List Byte} {ok : Bool}
    (h : ok = false ∨ b.toNat < 2 ∨ 102 < b.toNat ∨ (b :: rest).length ≠ b.toNat + 3 ∨
      (b :: rest).drop (b.toNat + 1) ≠ bytes16 (crc16 ((b :: rest).take (b.toNat + 1)))) :
    ¬frameIntact (b :: rest) ok = true := by
  rw [frameIntact_cons]
  rintro ⟨hok, ⟨hlow, hhigh⟩, hlen, hcrc⟩
  rcases h with h | h | h | h | h
  · exact absurd (hok.symm.trans h) (by decide)
  · omega
  · omega
  · exact h hlen
  · exact h hcrc

section check
variable {bytes body : List Byte} {code issuer : Byte}

theorem checkFrame_broken {ok : Bool} (h : ¬frameIntact bytes ok = true) :
    checkFrame bytes ok = .refuse .frameError := by
  rw [checkFrame, if_neg h]

/-- Check 5. -/
theorem checkFrame_unknown (hb : body.length ≤ 100) (hc : code = 0 ∨ 0x1C < code.toNat) :
    checkFrame (rawFrame code issuer body) true = .refuse .unknownRequest := by
  rw [checkFrame, if_pos (frameIntact_rawFrame code issuer hb)]
  refine if_neg fun (hin : 1 ≤ code.toNat ∧ code.toNat ≤ 0x1C) => ?_
  rcases hc with rfl | hc
  · exact absurd hin.1 (by decide)
  · omega

/-- Check 6. -/
theorem checkFrame_badIssuer (hb : body.length ≤ 100) (hc : 1 ≤ code.toNat ∧ code.toNat ≤ 0x1C)
    (hi : issuerOfByte issuer = none) : checkFrame (rawFrame code issuer body) true = .refuse .badField := by
  have hbyte : (rawFrame code issuer body).getD 2 0 = issuer := rfl
  rw [checkFrame, if_pos (frameIntact_rawFrame code issuer hb), hbyte, hi]
  exact if_pos hc

/-- A frame that passes every check is taken in hand with the body that its host sent. -/
theorem checkFrame_taken {iss : Issuer} (hb : body.length ≤ 100) (hc : 1 ≤ code.toNat ∧ code.toNat ≤ 0x1C)
    (hi : issuerOfByte issuer = some iss) :
    checkFrame (rawFrame code issuer body) true = .take (.frame code.toNat iss body) := by
  have hbyte : (rawFrame code issuer body).getD 2 0 = issuer := rfl
  have hbody : ((rawFrame code issuer body).drop 3).take (((rawFrame code issuer body).getD 0 0).toNat - 2) = body := by
    rw [rawFrame_eq, List.getD_cons_zero, lengthByte_toNat hb]
    exact List.take_left
  rw [checkFrame, if_pos (frameIntact_rawFrame code issuer hb), hbyte, hi, hbody]
  exact if_pos hc

end check

/-! ### The end of a select period (R182) -/

theorem State.presentRequest_of_free {s : State} (h : s.tableFree = true) :
    s.presentRequest = { s with arb := { s.arb with holder := .request } } := if_pos h

theorem State.presentRequest_of_held {s : State} (h : s.tableFree = false) :
    s.presentRequest = { s with arb := { s.arb with waitRequest := true } } := if_neg (by simp [h])

theorem State.endSelect_of_frame {bytes : List Byte} (h : bytes.getD 0 0 ≠ 0) (ok : Bool) (s : State) :
    s.endSelect bytes ok = s.endFrame bytes ok := by
  cases bytes with
  | nil => exact absurd rfl h
  | cons b rest => exact if_neg h

theorem State.endFrame_of_working {s : State} {x : InHand} (hx : s.port = .working x) (bytes : List Byte) (ok : Bool) :
    s.endFrame bytes ok = { s with receiver := bytes } := by
  simp only [State.endFrame, hx]

theorem State.endFrame_of_portFree {s : State} (hp : s.portFree) (bytes : List Byte) (ok : Bool) :
    s.endFrame bytes ok = State.takeFrame bytes ok { s with receiver := bytes } := by
  unfold State.endFrame
  dsimp only
  split
  · exact absurd ‹_› (hp _)
  · rfl

section frameEnd
variable {bytes : List Byte} {ok : Bool} {s : State}

theorem exec_requestFrameEnd_outOfReset (h0 : s.inReset = false) :
    exec (.requestFrameEnd bytes ok) s = .next (s.endSelect bytes ok) := by
  rw [exec_requestFrameEnd, outsideReset_act h0]

/-- With no request in hand, a frame is received and its checks decide. -/
theorem exec_requestFrameEnd_of_portFree (h0 : s.inReset = false) (hp : s.portFree) (hb : bytes.getD 0 0 ≠ 0) :
    exec (.requestFrameEnd bytes ok) s = .next (State.takeFrame bytes ok { s with receiver := bytes }) := by
  rw [exec_requestFrameEnd_outOfReset h0, State.endSelect_of_frame hb, State.endFrame_of_portFree hp]

/-- A frame that a check refuses is answered at once and presents no claim. -/
theorem exec_requestFrameEnd_refused {st : Status} (h0 : s.inReset = false) (hp : s.portFree) (hb : bytes.getD 0 0 ≠ 0)
    (hc : checkFrame bytes ok = .refuse st) :
    exec (.requestFrameEnd bytes ok) s =
      .next { s with receiver := bytes, port := .answered ⟨st, .empty⟩, ready := true } := by
  rw [exec_requestFrameEnd_of_portFree h0 hp hb, State.takeFrame, hc]
  rfl

/-- A frame that passes the checks is in hand, READY falls, and its claim is presented. -/
theorem exec_requestFrameEnd_taken {x : InHand} (h0 : s.inReset = false) (hp : s.portFree) (hb : bytes.getD 0 0 ≠ 0)
    (hc : checkFrame bytes ok = .take x) :
    exec (.requestFrameEnd bytes ok) s =
      .next (State.presentRequest { s with receiver := bytes, port := .working x, ready := false }) := by
  rw [exec_requestFrameEnd_of_portFree h0 hp hb, State.takeFrame, hc]

end frameEnd

/-- The first byte of a frame that keeps the layout makes its select period no read. -/
theorem rawFrame_first_ne_zero (code issuer : Byte) {body : List Byte} (hb : body.length ≤ 100) :
    (rawFrame code issuer body).getD 0 0 ≠ 0 := fun h => by
  have hlen := lengthByte_toNat hb
  rw [rawFrame_eq, List.getD_cons_zero] at h
  simp [h] at hlen

theorem checkFrame_requestFrame {code : Nat} (iss : Issuer) {body : List Byte} (h1 : 1 ≤ code) (hc : code ≤ 0x1C)
    (hb : body.length ≤ 100) : checkFrame (requestFrame code iss body) true = .take (.frame code iss body) := by
  have hcode : (BitVec.ofNat 8 code).toNat = code := by
    rw [BitVec.toNat_ofNat]
    omega
  rw [requestFrame, checkFrame_taken hb ⟨by omega, by omega⟩ (issuerOfByte_issuerByte iss), hcode]

/-! ### The command that runs a frame in hand (R186) -/

theorem emptyBodyFits_iff {b : Body Unit} {bytes : List Byte} :
    emptyBodyFits b bytes = true ↔ (b = .fields () ↔ bytes = []) := by
  cases b <;> simp [emptyBodyFits]

section runs
variable {i : Instr} {code n : Nat} {iss j : Issuer} {bytes : List Byte}

theorem InHand.frame_runs :
    (InHand.frame code iss bytes).runs i = true ↔ requestOf i = some (code, iss) ∧ bodyFits i bytes = true := by
  rw [InHand.runs, Bool.and_eq_true, decide_eq_true_eq]

/-- A frame is run by a request of its code and issuer whose body can be its own. -/
theorem InHand.frame_runs_request (hi : requestOf i = some (n, j)) :
    (InHand.frame code iss bytes).runs i = true ↔ code = n ∧ j = iss ∧ bodyFits i bytes = true := by
  rw [InHand.frame_runs, hi, Option.some_inj, Prod.mk.injEq, and_assoc, eq_comm (a := n)]

/-- A request whose body has no stated layout. -/
theorem InHand.frame_runs_unlaid (hi : requestOf i = some (n, j)) (hb : bodyFits i bytes = true) :
    (InHand.frame code iss bytes).runs i = true ↔ code = n ∧ j = iss := by
  rw [InHand.frame_runs_request hi, and_iff_left hb]

/-- A request whose body carries no fields. -/
theorem InHand.frame_runs_bare {b : Body Unit} (hi : requestOf i = some (n, j))
    (hb : bodyFits i bytes = emptyBodyFits b bytes) :
    (InHand.frame code iss bytes).runs i = true ↔ code = n ∧ j = iss ∧ (b = .fields () ↔ bytes = []) := by
  rw [InHand.frame_runs_request hi, hb, emptyBodyFits_iff]

theorem InHand.isRequest_of_frame_runs (h : (InHand.frame code iss bytes).runs i = true) : isRequest i := by
  rw [isRequest, (InHand.frame_runs.mp h).1]
  rfl

end runs

theorem InHand.request_runs {i j : Instr} : (InHand.request j).runs i = true ↔ i = j := decide_eq_true_iff

/-- Settles O5: the frame by the checks of R183, then the commands that run it in the order of their codes, each by
what the spec lays out of its body. -/
theorem requestFrameIsCheckedThenTaken : Obligations.RequestFrameIsCheckedThenTaken := by
  refine ⟨fun code iss body s h1 hc hb h0 hp => ?_,
    fun s h0 => ⟨fun b rest ok hne hp hbad => ?_, fun code issuer body hp hb => ⟨fun hc => ?_, fun hc0 hc hi => ?_⟩,
      fun b rest ok x hne hx => ?_, fun _ _ => exec_requestFrameEnd_outOfReset h0,
      fun _ => exec_requestFrameEnd_outOfReset h0⟩,
    fun _ _ => InHand.request_runs, ?_⟩
  · have htaken := exec_requestFrameEnd_taken h0 hp (rawFrame_first_ne_zero _ _ hb)
      (checkFrame_requestFrame iss h1 hc hb)
    exact ⟨fun hfree => htaken.trans (congrArg _ (State.presentRequest_of_free hfree)),
      fun hheld => htaken.trans (congrArg _ (State.presentRequest_of_held hheld))⟩
  · exact exec_requestFrameEnd_refused h0 hp hne (checkFrame_broken (not_frameIntact_cons hbad))
  · exact exec_requestFrameEnd_refused h0 hp (rawFrame_first_ne_zero _ _ hb) (checkFrame_unknown hb hc)
  · have hlow : 1 ≤ code.toNat := Nat.one_le_iff_ne_zero.mpr fun h => hc0 (BitVec.eq_of_toNat_eq h)
    exact exec_requestFrameEnd_refused h0 hp (rawFrame_first_ne_zero _ _ hb)
      (checkFrame_badIssuer hb ⟨hlow, hc⟩ (issuerOfByte_eq_none hi))
  · rw [exec_requestFrameEnd_outOfReset h0, State.endSelect_of_frame (bytes := b :: rest) hne,
      State.endFrame_of_working hx]
  · rintro code iss bytes _ rfl
    exact ⟨fun _ _ => InHand.frame_runs_unlaid rfl rfl,
      fun _ _ => InHand.frame_runs_unlaid rfl rfl,
      fun _ _ => InHand.frame_runs_unlaid rfl rfl,
      fun _ _ => InHand.frame_runs_bare rfl rfl,
      fun _ _ => InHand.frame_runs_unlaid rfl rfl,
      fun _ _ => InHand.frame_runs_unlaid rfl rfl,
      fun _ _ => InHand.frame_runs_unlaid rfl rfl,
      fun _ _ => InHand.frame_runs_bare rfl rfl,
      fun _ _ => InHand.frame_runs_bare rfl rfl,
      fun _ _ => InHand.frame_runs_unlaid rfl rfl,
      fun _ _ => InHand.frame_runs_unlaid rfl rfl,
      fun _ _ => InHand.frame_runs_unlaid rfl rfl,
      fun _ _ => (InHand.frame_runs_request rfl).trans (by rw [bodyFits, decide_eq_true_eq]),
      fun _ _ => InHand.frame_runs_unlaid rfl rfl,
      fun _ _ => InHand.frame_runs_bare rfl rfl,
      fun _ _ => InHand.frame_runs_unlaid rfl rfl,
      fun _ _ => InHand.frame_runs_bare rfl rfl,
      fun _ _ => InHand.frame_runs_unlaid rfl rfl,
      fun _ _ => InHand.frame_runs_unlaid rfl rfl,
      fun _ _ => InHand.frame_runs_unlaid rfl rfl,
      fun _ _ => InHand.frame_runs_bare rfl rfl,
      fun _ _ => InHand.frame_runs_bare rfl rfl,
      fun _ _ => InHand.frame_runs_bare rfl rfl,
      fun _ _ => InHand.frame_runs_bare rfl rfl,
      fun _ _ => InHand.frame_runs_bare rfl rfl,
      fun _ _ => InHand.frame_runs_unlaid rfl rfl,
      fun _ _ => InHand.frame_runs_unlaid rfl rfl,
      fun _ _ => InHand.frame_runs_bare rfl rfl,
      fun _ => InHand.isRequest_of_frame_runs⟩

end Sys2Proof.Machine

namespace Sys2Proof.Machine

/-! ## O1: the step and the queue -/

/-- A step on a queue with a front command runs that command, already taken off the queue. -/
theorem step_of_pending_cons {c : Instr} {rest : List Instr} {s : State} (h : s.pending = c :: rest) :
    step s = exec c { s with pending := rest } := by
  rw [step, h]

/-- A step on an empty queue idles. -/
theorem step_of_pending_nil {s : State} (h : s.pending = []) : step s = .next s := by
  rw [step, h]

/-- Settles O1, by the two forms of the queue (notes/assumptions/10.md). -/
theorem stepRunsTheFrontCommand : Obligations.StepRunsTheFrontCommand :=
  ⟨fun _ _ _ => step_of_pending_cons rfl, fun _ => step_of_pending_nil⟩

end Sys2Proof.Machine
